-- ==== Sys2Proof/Word.lean ====
section
/-! DEFINITION. The two word types of the hardware: 8-bit bytes and 16-bit words (00_scope.md R6). -/

namespace Sys2Proof

/-- A byte: every register but PC, and every memory cell, holds one (00_scope.md R6). -/
abbrev Byte := BitVec 8

/-- A 16-bit word: PC and every address (00_scope.md R6). -/
abbrev Word := BitVec 16

end Sys2Proof
end

