-- ==== Sys2Proof/Config.lean ====
section
/-! DEFINITION. The parameters the spec leaves open (00_scope.md R7), the two breakpoint tables (10_state.md R47),
and the free values (93_implementation_defined.md U9, U10). -/

namespace Sys2Proof

/-- Where the high byte of a zero-page pointer is read when its low byte is at 0x00FF (40_addressing.md R134). -/
inductive ZpPtrWrap where
  /-- from 0x0000 -/
  | wrap
  /-- from 0x0100 -/
  | linear
  /-- the access has no meaning -/
  | refuse
  deriving DecidableEq, Repr

/-- A debug annotation (60_exceptions.md R261): free text, or a request to dump memory from an address. -/
inductive Annotation where
  | text (words : String)
  | memoryDump (start : Word)
  deriving DecidableEq, Repr

/-- The named parameters of 00_scope.md R7, and the two breakpoint tables, inputs fixed for a run (10_state.md R47).
A state carries its parameters, so that a claim about every state holds for every value of them (log entry 1).
`INTERVAL_LENGTH` is timing only (00_scope.md R5) and is left out. -/
structure Config where
  /-- `PROGRAM_START` -/
  programStart : Word
  /-- `RESET_A` -/
  resetA : Byte
  /-- `RESET_X` -/
  resetX : Byte
  /-- `RESET_Y` -/
  resetY : Byte
  /-- `CACHE_START` -/
  cacheStart : Word
  /-- `CACHE_SIZE`, 1 to 256 -/
  cacheSize : Nat
  /-- `COMPAT_EXT` -/
  compatExt : Bool
  /-- `OPC_CBL` -/
  opcCbl : Byte
  /-- `OPC_CBS` -/
  opcCbs : Byte
  /-- `OPC_ERR` -/
  opcErr : Byte
  /-- `ZP_PTR_WRAP` -/
  zpPtrWrap : ZpPtrWrap
  /-- `STEP_QUOTA` (Q) -/
  stepQuota : Nat
  /-- `INT_STEP_BUDGET` (B) -/
  intStepBudget : Nat
  /-- `MAX_INTERVALS` (M) -/
  maxIntervals : Nat
  /-- `KBD_COUNT_ADDR` -/
  kbdCountAddr : Word
  /-- `KBD_DATA_START` -/
  kbdDataStart : Word
  /-- `KBD_CAPACITY` -/
  kbdCapacity : Nat
  /-- The debug table: every annotation with its address, those of one address in their order. -/
  debugTable : List (Word × Annotation)
  /-- The suspend table: the flagged addresses. -/
  suspendTable : List Word
  deriving DecidableEq, Repr

/-- The parameter values `State.reset` uses. `COMPAT_EXT`, the custom opcodes and `ZP_PTR_WRAP` are the spec's defaults
(00_scope.md R7); A, X, Y are DESIGN CHOICE (log entry 2); the rest are OPEN in the spec and DESIGN CHOICE here
(log entry 3), taken from the spec's illustrations in 95_test_vectors.md where it has one. -/
def Config.default : Config where
  programStart := 0x0600
  resetA := 0x00
  resetX := 0x00
  resetY := 0x00
  cacheStart := 0x0200
  cacheSize := 0x40
  compatExt := false
  opcCbl := 0x03
  opcCbs := 0x13
  opcErr := 0x23
  zpPtrWrap := .refuse
  stepQuota := 100
  intStepBudget := 100
  maxIntervals := 1000
  kbdCountAddr := 0x0300
  kbdDataStart := 0x0301
  kbdCapacity := 16
  debugTable := []
  suspendTable := []

/-- The default parameters with the COMPAT tier in the catalogue (30_encoding.md R100). -/
def Config.full : Config := { Config.default with compatExt := true }

/-- FREE VALUE (log entry 9): the n-th free byte; what the keyboard drain leaves in its cells
(93_implementation_defined.md U9). It has no body: no proof can know a value of it. -/
opaque Config.freeByte : Nat → Byte

/-- FREE VALUE (log entry 8): the n-th free word; `PC` in a Halted state reached by UnknownOpcode, Break or
SoftwareError (93_implementation_defined.md U10). It has no body: no proof can know a value of it. -/
opaque Config.freeWord : Nat → Word

end Sys2Proof
end

