-- ==== Sys2Proof/Syntax.lean ====
section
/-! DEFINITION. The instructions: one constructor for every row of spec/opcode_table.json, in the order of the spec's
instruction files, each carrying the operand bytes its format gives it (30_encoding.md R90, R91, R98). -/

namespace Sys2Proof

/-- The tiers of the catalogue (30_encoding.md R100). -/
inductive Tier where
  | core
  | custom
  | compat
  deriving DecidableEq, Repr

/-- The nine operand forms the spec's resolver section describes (40_addressing.md R121 to R129), each with its operand. -/
inductive Form where
  | imm (v : Byte)
  | zp (z : Byte)
  | zpx (z : Byte)
  | zpy (z : Byte)
  | abs (a : Word)
  | absx (a : Word)
  | absy (a : Word)
  | indx (z : Byte)
  | indy (z : Byte)
  deriving DecidableEq, Repr

/-- An instruction with its operands. Operand names: `v` immediate byte, `z` zero-page byte, `a` 16-bit address,
`off` branch offset byte, `len` block length byte. -/
inductive Instr where
  -- 41_load_store.md
  | ldaImm (v : Byte)
  | ldaZp (z : Byte)
  | ldaZpx (z : Byte)
  | ldaAbs (a : Word)
  | ldaAbsx (a : Word)
  | ldaAbsy (a : Word)
  | ldaIndx (z : Byte)
  | ldaIndy (z : Byte)
  | ldxImm (v : Byte)
  | ldxZp (z : Byte)
  | ldxZpy (z : Byte)
  | ldxAbs (a : Word)
  | ldxAbsy (a : Word)
  | ldyImm (v : Byte)
  | ldyZp (z : Byte)
  | ldyZpx (z : Byte)
  | ldyAbs (a : Word)
  | ldyAbsx (a : Word)
  | staZp (z : Byte)
  | staZpx (z : Byte)
  | staAbs (a : Word)
  | staAbsx (a : Word)
  | staAbsy (a : Word)
  | staIndx (z : Byte)
  | staIndy (z : Byte)
  | stxZp (z : Byte)
  | stxZpy (z : Byte)
  | stxAbs (a : Word)
  | styZp (z : Byte)
  | styZpx (z : Byte)
  | styAbs (a : Word)
  -- 42_arithmetic_compare.md
  | cmpImm (v : Byte)
  | cmpZp (z : Byte)
  | cmpZpx (z : Byte)
  | cmpAbs (a : Word)
  | cmpAbsx (a : Word)
  | cmpAbsy (a : Word)
  | cmpIndx (z : Byte)
  | cmpIndy (z : Byte)
  | cpxImm (v : Byte)
  | cpxZp (z : Byte)
  | cpxAbs (a : Word)
  | cpyImm (v : Byte)
  | cpyZp (z : Byte)
  | cpyAbs (a : Word)
  | adcImm (v : Byte)
  | adcZp (z : Byte)
  | adcZpx (z : Byte)
  | adcAbs (a : Word)
  | adcAbsx (a : Word)
  | adcAbsy (a : Word)
  | adcIndx (z : Byte)
  | adcIndy (z : Byte)
  | sbcImm (v : Byte)
  | sbcZp (z : Byte)
  | sbcZpx (z : Byte)
  | sbcAbs (a : Word)
  | sbcAbsx (a : Word)
  | sbcAbsy (a : Word)
  | sbcIndx (z : Byte)
  | sbcIndy (z : Byte)
  -- 43_shift_rotate.md
  | aslAcc
  | aslZp (z : Byte)
  | aslZpx (z : Byte)
  | aslAbs (a : Word)
  | aslAbsx (a : Word)
  | lsrAcc
  | lsrZp (z : Byte)
  | lsrZpx (z : Byte)
  | lsrAbs (a : Word)
  | lsrAbsx (a : Word)
  | rolAcc
  | rolZp (z : Byte)
  | rolZpx (z : Byte)
  | rolAbs (a : Word)
  | rolAbsx (a : Word)
  | rorAcc
  | rorZp (z : Byte)
  | rorZpx (z : Byte)
  | rorAbs (a : Word)
  | rorAbsx (a : Word)
  -- 44_bit_logic.md
  | bitZp (z : Byte)
  | bitAbs (a : Word)
  | andImm (v : Byte)
  | andZp (z : Byte)
  | andZpx (z : Byte)
  | andAbs (a : Word)
  | andAbsx (a : Word)
  | andAbsy (a : Word)
  | andIndx (z : Byte)
  | andIndy (z : Byte)
  | oraImm (v : Byte)
  | oraZp (z : Byte)
  | oraZpx (z : Byte)
  | oraAbs (a : Word)
  | oraAbsx (a : Word)
  | oraAbsy (a : Word)
  | oraIndx (z : Byte)
  | oraIndy (z : Byte)
  | eorImm (v : Byte)
  | eorZp (z : Byte)
  | eorZpx (z : Byte)
  | eorAbs (a : Word)
  | eorAbsx (a : Word)
  | eorAbsy (a : Word)
  | eorIndx (z : Byte)
  | eorIndy (z : Byte)
  -- 45_incdec.md
  | incZp (z : Byte)
  | incZpx (z : Byte)
  | incAbs (a : Word)
  | incAbsx (a : Word)
  | decZp (z : Byte)
  | decZpx (z : Byte)
  | decAbs (a : Word)
  | decAbsx (a : Word)
  | inx
  | iny
  | dex
  | dey
  -- 46_transfer_stack.md
  | tax
  | tay
  | txa
  | tya
  | tsx
  | txs
  | pha
  | pla
  | php
  | plp
  -- 47_control_flow.md
  | bpl (off : Byte)
  | bmi (off : Byte)
  | bvc (off : Byte)
  | bvs (off : Byte)
  | bcc (off : Byte)
  | bcs (off : Byte)
  | bne (off : Byte)
  | beq (off : Byte)
  | jmpAbs (a : Word)
  | jmpInd (a : Word)
  | jsr (a : Word)
  | rts
  -- 48_flag_nop.md
  | clc
  | sec
  | cli
  | sei
  | clv
  | cld
  | sed
  | nop
  -- 49_system_custom.md
  | brk
  | err
  | rti
  | cbl (a : Word) (len : Byte)
  | cbs (a : Word) (len : Byte)
  deriving DecidableEq, Repr

/-- The tier of the row an instruction stands for (30_encoding.md R100). -/
def Instr.tier : Instr → Tier
  | .ldaImm _ => .core
  | .ldaZp _ => .core
  | .ldaZpx _ => .core
  | .ldaAbs _ => .core
  | .ldaAbsx _ => .core
  | .ldaAbsy _ => .core
  | .ldaIndx _ => .core
  | .ldaIndy _ => .core
  | .ldxImm _ => .core
  | .ldxZp _ => .core
  | .ldxZpy _ => .core
  | .ldxAbs _ => .core
  | .ldxAbsy _ => .core
  | .ldyImm _ => .core
  | .ldyZp _ => .core
  | .ldyZpx _ => .core
  | .ldyAbs _ => .core
  | .ldyAbsx _ => .core
  | .staZp _ => .core
  | .staZpx _ => .core
  | .staAbs _ => .core
  | .staAbsx _ => .core
  | .staAbsy _ => .core
  | .staIndx _ => .core
  | .staIndy _ => .core
  | .stxZp _ => .core
  | .stxZpy _ => .core
  | .stxAbs _ => .core
  | .styZp _ => .core
  | .styZpx _ => .core
  | .styAbs _ => .core
  | .cmpImm _ => .core
  | .cmpZp _ => .core
  | .cmpZpx _ => .core
  | .cmpAbs _ => .core
  | .cmpAbsx _ => .core
  | .cmpAbsy _ => .core
  | .cmpIndx _ => .core
  | .cmpIndy _ => .core
  | .cpxImm _ => .core
  | .cpxZp _ => .core
  | .cpxAbs _ => .core
  | .cpyImm _ => .core
  | .cpyZp _ => .core
  | .cpyAbs _ => .core
  | .adcImm _ => .core
  | .adcZp _ => .core
  | .adcZpx _ => .core
  | .adcAbs _ => .core
  | .adcAbsx _ => .core
  | .adcAbsy _ => .core
  | .adcIndx _ => .core
  | .adcIndy _ => .core
  | .sbcImm _ => .core
  | .sbcZp _ => .core
  | .sbcZpx _ => .core
  | .sbcAbs _ => .core
  | .sbcAbsx _ => .core
  | .sbcAbsy _ => .core
  | .sbcIndx _ => .core
  | .sbcIndy _ => .core
  | .aslAcc => .core
  | .aslZp _ => .core
  | .aslZpx _ => .core
  | .aslAbs _ => .core
  | .aslAbsx _ => .core
  | .lsrAcc => .core
  | .lsrZp _ => .core
  | .lsrZpx _ => .core
  | .lsrAbs _ => .core
  | .lsrAbsx _ => .core
  | .rolAcc => .core
  | .rolZp _ => .core
  | .rolZpx _ => .core
  | .rolAbs _ => .core
  | .rolAbsx _ => .core
  | .rorAcc => .core
  | .rorZp _ => .core
  | .rorZpx _ => .core
  | .rorAbs _ => .core
  | .rorAbsx _ => .core
  | .bitZp _ => .core
  | .bitAbs _ => .core
  | .andImm _ => .compat
  | .andZp _ => .compat
  | .andZpx _ => .compat
  | .andAbs _ => .compat
  | .andAbsx _ => .compat
  | .andAbsy _ => .compat
  | .andIndx _ => .compat
  | .andIndy _ => .compat
  | .oraImm _ => .compat
  | .oraZp _ => .compat
  | .oraZpx _ => .compat
  | .oraAbs _ => .compat
  | .oraAbsx _ => .compat
  | .oraAbsy _ => .compat
  | .oraIndx _ => .compat
  | .oraIndy _ => .compat
  | .eorImm _ => .compat
  | .eorZp _ => .compat
  | .eorZpx _ => .compat
  | .eorAbs _ => .compat
  | .eorAbsx _ => .compat
  | .eorAbsy _ => .compat
  | .eorIndx _ => .compat
  | .eorIndy _ => .compat
  | .incZp _ => .core
  | .incZpx _ => .core
  | .incAbs _ => .core
  | .incAbsx _ => .core
  | .decZp _ => .core
  | .decZpx _ => .core
  | .decAbs _ => .core
  | .decAbsx _ => .core
  | .inx => .core
  | .iny => .core
  | .dex => .core
  | .dey => .core
  | .tax => .compat
  | .tay => .compat
  | .txa => .compat
  | .tya => .compat
  | .tsx => .compat
  | .txs => .compat
  | .pha => .core
  | .pla => .core
  | .php => .core
  | .plp => .core
  | .bpl _ => .core
  | .bmi _ => .core
  | .bvc _ => .core
  | .bvs _ => .core
  | .bcc _ => .core
  | .bcs _ => .core
  | .bne _ => .core
  | .beq _ => .core
  | .jmpAbs _ => .core
  | .jmpInd _ => .compat
  | .jsr _ => .compat
  | .rts => .compat
  | .clc => .compat
  | .sec => .compat
  | .cli => .compat
  | .sei => .compat
  | .clv => .compat
  | .cld => .compat
  | .sed => .compat
  | .nop => .compat
  | .brk => .core
  | .err => .custom
  | .rti => .core
  | .cbl _ _ => .custom
  | .cbs _ _ => .custom

/-- The length of an instruction in bytes, the `bytes` column of the table (30_encoding.md R90, R93). -/
def Instr.length : Instr → Nat
  | .ldaImm _ => 2
  | .ldaZp _ => 2
  | .ldaZpx _ => 2
  | .ldaAbs _ => 3
  | .ldaAbsx _ => 3
  | .ldaAbsy _ => 3
  | .ldaIndx _ => 2
  | .ldaIndy _ => 2
  | .ldxImm _ => 2
  | .ldxZp _ => 2
  | .ldxZpy _ => 2
  | .ldxAbs _ => 3
  | .ldxAbsy _ => 3
  | .ldyImm _ => 2
  | .ldyZp _ => 2
  | .ldyZpx _ => 2
  | .ldyAbs _ => 3
  | .ldyAbsx _ => 3
  | .staZp _ => 2
  | .staZpx _ => 2
  | .staAbs _ => 3
  | .staAbsx _ => 3
  | .staAbsy _ => 3
  | .staIndx _ => 2
  | .staIndy _ => 2
  | .stxZp _ => 2
  | .stxZpy _ => 2
  | .stxAbs _ => 3
  | .styZp _ => 2
  | .styZpx _ => 2
  | .styAbs _ => 3
  | .cmpImm _ => 2
  | .cmpZp _ => 2
  | .cmpZpx _ => 2
  | .cmpAbs _ => 3
  | .cmpAbsx _ => 3
  | .cmpAbsy _ => 3
  | .cmpIndx _ => 2
  | .cmpIndy _ => 2
  | .cpxImm _ => 2
  | .cpxZp _ => 2
  | .cpxAbs _ => 3
  | .cpyImm _ => 2
  | .cpyZp _ => 2
  | .cpyAbs _ => 3
  | .adcImm _ => 2
  | .adcZp _ => 2
  | .adcZpx _ => 2
  | .adcAbs _ => 3
  | .adcAbsx _ => 3
  | .adcAbsy _ => 3
  | .adcIndx _ => 2
  | .adcIndy _ => 2
  | .sbcImm _ => 2
  | .sbcZp _ => 2
  | .sbcZpx _ => 2
  | .sbcAbs _ => 3
  | .sbcAbsx _ => 3
  | .sbcAbsy _ => 3
  | .sbcIndx _ => 2
  | .sbcIndy _ => 2
  | .aslAcc => 1
  | .aslZp _ => 2
  | .aslZpx _ => 2
  | .aslAbs _ => 3
  | .aslAbsx _ => 3
  | .lsrAcc => 1
  | .lsrZp _ => 2
  | .lsrZpx _ => 2
  | .lsrAbs _ => 3
  | .lsrAbsx _ => 3
  | .rolAcc => 1
  | .rolZp _ => 2
  | .rolZpx _ => 2
  | .rolAbs _ => 3
  | .rolAbsx _ => 3
  | .rorAcc => 1
  | .rorZp _ => 2
  | .rorZpx _ => 2
  | .rorAbs _ => 3
  | .rorAbsx _ => 3
  | .bitZp _ => 2
  | .bitAbs _ => 3
  | .andImm _ => 2
  | .andZp _ => 2
  | .andZpx _ => 2
  | .andAbs _ => 3
  | .andAbsx _ => 3
  | .andAbsy _ => 3
  | .andIndx _ => 2
  | .andIndy _ => 2
  | .oraImm _ => 2
  | .oraZp _ => 2
  | .oraZpx _ => 2
  | .oraAbs _ => 3
  | .oraAbsx _ => 3
  | .oraAbsy _ => 3
  | .oraIndx _ => 2
  | .oraIndy _ => 2
  | .eorImm _ => 2
  | .eorZp _ => 2
  | .eorZpx _ => 2
  | .eorAbs _ => 3
  | .eorAbsx _ => 3
  | .eorAbsy _ => 3
  | .eorIndx _ => 2
  | .eorIndy _ => 2
  | .incZp _ => 2
  | .incZpx _ => 2
  | .incAbs _ => 3
  | .incAbsx _ => 3
  | .decZp _ => 2
  | .decZpx _ => 2
  | .decAbs _ => 3
  | .decAbsx _ => 3
  | .inx => 1
  | .iny => 1
  | .dex => 1
  | .dey => 1
  | .tax => 1
  | .tay => 1
  | .txa => 1
  | .tya => 1
  | .tsx => 1
  | .txs => 1
  | .pha => 1
  | .pla => 1
  | .php => 1
  | .plp => 1
  | .bpl _ => 2
  | .bmi _ => 2
  | .bvc _ => 2
  | .bvs _ => 2
  | .bcc _ => 2
  | .bcs _ => 2
  | .bne _ => 2
  | .beq _ => 2
  | .jmpAbs _ => 3
  | .jmpInd _ => 3
  | .jsr _ => 3
  | .rts => 1
  | .clc => 1
  | .sec => 1
  | .cli => 1
  | .sei => 1
  | .clv => 1
  | .cld => 1
  | .sed => 1
  | .nop => 1
  | .brk => 1
  | .err => 1
  | .rti => 1
  | .cbl _ _ => 4
  | .cbs _ _ => 4

end Sys2Proof
end

