-- ==== Sys2Proof/WellFormed.lean ====
section
/-! DEFINITION. When a parameter set and an instruction are well formed: the constraints 00_scope.md R7 and
92_eei_decisions.md put on the parameters, and the membership of an instruction in the catalogue (30_encoding.md R100). -/

namespace Sys2Proof

/-- The documented 6502 opcode bytes 0x00 to 0x3F (30_encoding.md R98). -/
def documentedOpcodes0 : List Byte :=
  [0x00, 0x01, 0x05, 0x06, 0x08, 0x09, 0x0A, 0x0D, 0x0E] ++
  [0x10, 0x11, 0x15, 0x16, 0x18, 0x19, 0x1D, 0x1E] ++
  [0x20, 0x21, 0x24, 0x25, 0x26, 0x28, 0x29, 0x2A, 0x2C, 0x2D, 0x2E] ++
  [0x30, 0x31, 0x35, 0x36, 0x38, 0x39, 0x3D, 0x3E]

/-- The documented 6502 opcode bytes 0x40 to 0x7F (30_encoding.md R98). -/
def documentedOpcodes1 : List Byte :=
  [0x40, 0x41, 0x45, 0x46, 0x48, 0x49, 0x4A, 0x4C, 0x4D, 0x4E] ++
  [0x50, 0x51, 0x55, 0x56, 0x58, 0x59, 0x5D, 0x5E] ++
  [0x60, 0x61, 0x65, 0x66, 0x68, 0x69, 0x6A, 0x6C, 0x6D, 0x6E] ++
  [0x70, 0x71, 0x75, 0x76, 0x78, 0x79, 0x7D, 0x7E]

/-- The documented 6502 opcode bytes 0x80 to 0xBF (30_encoding.md R98). -/
def documentedOpcodes2 : List Byte :=
  [0x81, 0x84, 0x85, 0x86, 0x88, 0x8A, 0x8C, 0x8D, 0x8E] ++
  [0x90, 0x91, 0x94, 0x95, 0x96, 0x98, 0x99, 0x9A, 0x9D] ++
  [0xA0, 0xA1, 0xA2, 0xA4, 0xA5, 0xA6, 0xA8, 0xA9, 0xAA, 0xAC, 0xAD, 0xAE] ++
  [0xB0, 0xB1, 0xB4, 0xB5, 0xB6, 0xB8, 0xB9, 0xBA, 0xBC, 0xBD, 0xBE]

/-- The documented 6502 opcode bytes 0xC0 to 0xFF (30_encoding.md R98). -/
def documentedOpcodes3 : List Byte :=
  [0xC0, 0xC1, 0xC4, 0xC5, 0xC6, 0xC8, 0xC9, 0xCA, 0xCC, 0xCD, 0xCE] ++
  [0xD0, 0xD1, 0xD5, 0xD6, 0xD8, 0xD9, 0xDD, 0xDE] ++
  [0xE0, 0xE1, 0xE4, 0xE5, 0xE6, 0xE8, 0xE9, 0xEA, 0xEC, 0xED, 0xEE] ++
  [0xF0, 0xF1, 0xF5, 0xF6, 0xF8, 0xF9, 0xFD, 0xFE]

/-- The 151 byte values of the documented 6502 set (30_encoding.md R98; CORE and COMPAT rows together). -/
def documentedOpcodes : List Byte :=
  documentedOpcodes0 ++ documentedOpcodes1 ++ documentedOpcodes2 ++ documentedOpcodes3

/-- The three custom opcodes are pairwise distinct (30_encoding.md R99). -/
def Config.customDistinct (c : Config) : Bool :=
  c.opcCbl != c.opcCbs && c.opcCbl != c.opcErr && c.opcCbs != c.opcErr

/-- The three custom opcodes lie outside the 151 standard values (00_scope.md R7, 92_eei_decisions.md D3). -/
def Config.customUndocumented (c : Config) : Bool :=
  !documentedOpcodes.contains c.opcCbl && !documentedOpcodes.contains c.opcCbs && !documentedOpcodes.contains c.opcErr

/-- The cache region has 1 to 256 bytes and does not run past 0xFFFF (00_scope.md R7, 92_eei_decisions.md D7). -/
def Config.cacheFits (c : Config) : Bool :=
  decide (1 ≤ c.cacheSize) && decide (c.cacheSize ≤ 256) && decide (c.cacheStart.toNat + c.cacheSize ≤ 65536)

/-- Quota, budget and interval limit are at least 1 (00_scope.md R7). -/
def Config.countsPositive (c : Config) : Bool :=
  decide (1 ≤ c.stepQuota) && decide (1 ≤ c.intStepBudget) && decide (1 ≤ c.maxIntervals)

/-- The keyboard data region lies inside the address space (60_exceptions.md R268 names its last cell). -/
def Config.keyboardFits (c : Config) : Bool :=
  decide (c.kbdDataStart.toNat + c.kbdCapacity ≤ 65536)

/-- A parameter set that meets every constraint of the spec. -/
def Config.wf (c : Config) : Bool :=
  c.customDistinct && c.customUndocumented && c.cacheFits && c.countsPositive && c.keyboardFits

/-- An instruction is well formed when its row is in the catalogue: a COMPAT row only with `COMPAT_EXT`
(30_encoding.md R100). Every operand byte may take every value (30_encoding.md R90, R91). -/
def Instr.wf (c : Config) (i : Instr) : Bool :=
  match i.tier with
  | .core => true
  | .custom => true
  | .compat => c.compatExt

end Sys2Proof
end

