-- ==== Sys2Proof/Decode.lean ====
section
/-! DEFINITION. The dispatch table (30_encoding.md R94, R98), the decoder, total on any bytes and rejecting by name, and
the encoder. -/

namespace Sys2Proof

/-! ## Byte order (20_memory.md R67, 30_encoding.md R91) -/

/-- The low byte of a 16-bit quantity. -/
def loByte (w : Word) : Byte := BitVec.ofNat 8 w.toNat

/-- The high byte of a 16-bit quantity. -/
def hiByte (w : Word) : Byte := BitVec.ofNat 8 (w.toNat / 256)

/-- `hi * 256 + lo` (00_scope.md R8, 30_encoding.md R91). -/
def wordOf (lo hi : Byte) : Word := BitVec.ofNat 16 (hi.toNat * 256 + lo.toNat)

/-! ## The dispatch table -/

/-- The four formats (30_encoding.md R90), each with what it makes of its operand bytes. -/
inductive Entry where
  | f1 (i : Instr)
  | f2 (mk : Byte → Instr)
  | f3 (mk : Word → Instr)
  | f4 (mk : Word → Byte → Instr)

/-- A row of the dispatch table for a standard opcode byte (30_encoding.md R94, R104). -/
structure Row where
  opcode : Byte
  tier : Tier
  entry : Entry

/-- Row 0x of the opcode map (30_encoding.md R98). -/
def rows0x : List Row :=
  [⟨0x00, .core, .f1 .brk⟩,
   ⟨0x01, .compat, .f2 .oraIndx⟩,
   ⟨0x05, .compat, .f2 .oraZp⟩,
   ⟨0x06, .core, .f2 .aslZp⟩,
   ⟨0x08, .core, .f1 .php⟩,
   ⟨0x09, .compat, .f2 .oraImm⟩,
   ⟨0x0A, .core, .f1 .aslAcc⟩,
   ⟨0x0D, .compat, .f3 .oraAbs⟩,
   ⟨0x0E, .core, .f3 .aslAbs⟩]

/-- Row 1x of the opcode map (30_encoding.md R98). -/
def rows1x : List Row :=
  [⟨0x10, .core, .f2 .bpl⟩,
   ⟨0x11, .compat, .f2 .oraIndy⟩,
   ⟨0x15, .compat, .f2 .oraZpx⟩,
   ⟨0x16, .core, .f2 .aslZpx⟩,
   ⟨0x18, .compat, .f1 .clc⟩,
   ⟨0x19, .compat, .f3 .oraAbsy⟩,
   ⟨0x1D, .compat, .f3 .oraAbsx⟩,
   ⟨0x1E, .core, .f3 .aslAbsx⟩]

/-- Row 2x of the opcode map (30_encoding.md R98). -/
def rows2x : List Row :=
  [⟨0x20, .compat, .f3 .jsr⟩,
   ⟨0x21, .compat, .f2 .andIndx⟩,
   ⟨0x24, .core, .f2 .bitZp⟩,
   ⟨0x25, .compat, .f2 .andZp⟩,
   ⟨0x26, .core, .f2 .rolZp⟩,
   ⟨0x28, .core, .f1 .plp⟩,
   ⟨0x29, .compat, .f2 .andImm⟩,
   ⟨0x2A, .core, .f1 .rolAcc⟩,
   ⟨0x2C, .core, .f3 .bitAbs⟩,
   ⟨0x2D, .compat, .f3 .andAbs⟩,
   ⟨0x2E, .core, .f3 .rolAbs⟩]

/-- Row 3x of the opcode map (30_encoding.md R98). -/
def rows3x : List Row :=
  [⟨0x30, .core, .f2 .bmi⟩,
   ⟨0x31, .compat, .f2 .andIndy⟩,
   ⟨0x35, .compat, .f2 .andZpx⟩,
   ⟨0x36, .core, .f2 .rolZpx⟩,
   ⟨0x38, .compat, .f1 .sec⟩,
   ⟨0x39, .compat, .f3 .andAbsy⟩,
   ⟨0x3D, .compat, .f3 .andAbsx⟩,
   ⟨0x3E, .core, .f3 .rolAbsx⟩]

/-- Row 4x of the opcode map (30_encoding.md R98). -/
def rows4x : List Row :=
  [⟨0x40, .core, .f1 .rti⟩,
   ⟨0x41, .compat, .f2 .eorIndx⟩,
   ⟨0x45, .compat, .f2 .eorZp⟩,
   ⟨0x46, .core, .f2 .lsrZp⟩,
   ⟨0x48, .core, .f1 .pha⟩,
   ⟨0x49, .compat, .f2 .eorImm⟩,
   ⟨0x4A, .core, .f1 .lsrAcc⟩,
   ⟨0x4C, .core, .f3 .jmpAbs⟩,
   ⟨0x4D, .compat, .f3 .eorAbs⟩,
   ⟨0x4E, .core, .f3 .lsrAbs⟩]

/-- Row 5x of the opcode map (30_encoding.md R98). -/
def rows5x : List Row :=
  [⟨0x50, .core, .f2 .bvc⟩,
   ⟨0x51, .compat, .f2 .eorIndy⟩,
   ⟨0x55, .compat, .f2 .eorZpx⟩,
   ⟨0x56, .core, .f2 .lsrZpx⟩,
   ⟨0x58, .compat, .f1 .cli⟩,
   ⟨0x59, .compat, .f3 .eorAbsy⟩,
   ⟨0x5D, .compat, .f3 .eorAbsx⟩,
   ⟨0x5E, .core, .f3 .lsrAbsx⟩]

/-- Row 6x of the opcode map (30_encoding.md R98). -/
def rows6x : List Row :=
  [⟨0x60, .compat, .f1 .rts⟩,
   ⟨0x61, .core, .f2 .adcIndx⟩,
   ⟨0x65, .core, .f2 .adcZp⟩,
   ⟨0x66, .core, .f2 .rorZp⟩,
   ⟨0x68, .core, .f1 .pla⟩,
   ⟨0x69, .core, .f2 .adcImm⟩,
   ⟨0x6A, .core, .f1 .rorAcc⟩,
   ⟨0x6C, .compat, .f3 .jmpInd⟩,
   ⟨0x6D, .core, .f3 .adcAbs⟩,
   ⟨0x6E, .core, .f3 .rorAbs⟩]

/-- Row 7x of the opcode map (30_encoding.md R98). -/
def rows7x : List Row :=
  [⟨0x70, .core, .f2 .bvs⟩,
   ⟨0x71, .core, .f2 .adcIndy⟩,
   ⟨0x75, .core, .f2 .adcZpx⟩,
   ⟨0x76, .core, .f2 .rorZpx⟩,
   ⟨0x78, .compat, .f1 .sei⟩,
   ⟨0x79, .core, .f3 .adcAbsy⟩,
   ⟨0x7D, .core, .f3 .adcAbsx⟩,
   ⟨0x7E, .core, .f3 .rorAbsx⟩]

/-- Row 8x of the opcode map (30_encoding.md R98). -/
def rows8x : List Row :=
  [⟨0x81, .core, .f2 .staIndx⟩,
   ⟨0x84, .core, .f2 .styZp⟩,
   ⟨0x85, .core, .f2 .staZp⟩,
   ⟨0x86, .core, .f2 .stxZp⟩,
   ⟨0x88, .core, .f1 .dey⟩,
   ⟨0x8A, .compat, .f1 .txa⟩,
   ⟨0x8C, .core, .f3 .styAbs⟩,
   ⟨0x8D, .core, .f3 .staAbs⟩,
   ⟨0x8E, .core, .f3 .stxAbs⟩]

/-- Row 9x of the opcode map (30_encoding.md R98). -/
def rows9x : List Row :=
  [⟨0x90, .core, .f2 .bcc⟩,
   ⟨0x91, .core, .f2 .staIndy⟩,
   ⟨0x94, .core, .f2 .styZpx⟩,
   ⟨0x95, .core, .f2 .staZpx⟩,
   ⟨0x96, .core, .f2 .stxZpy⟩,
   ⟨0x98, .compat, .f1 .tya⟩,
   ⟨0x99, .core, .f3 .staAbsy⟩,
   ⟨0x9A, .compat, .f1 .txs⟩,
   ⟨0x9D, .core, .f3 .staAbsx⟩]

/-- Row Ax of the opcode map (30_encoding.md R98). -/
def rowsAx : List Row :=
  [⟨0xA0, .core, .f2 .ldyImm⟩,
   ⟨0xA1, .core, .f2 .ldaIndx⟩,
   ⟨0xA2, .core, .f2 .ldxImm⟩,
   ⟨0xA4, .core, .f2 .ldyZp⟩,
   ⟨0xA5, .core, .f2 .ldaZp⟩,
   ⟨0xA6, .core, .f2 .ldxZp⟩,
   ⟨0xA8, .compat, .f1 .tay⟩,
   ⟨0xA9, .core, .f2 .ldaImm⟩,
   ⟨0xAA, .compat, .f1 .tax⟩,
   ⟨0xAC, .core, .f3 .ldyAbs⟩,
   ⟨0xAD, .core, .f3 .ldaAbs⟩,
   ⟨0xAE, .core, .f3 .ldxAbs⟩]

/-- Row Bx of the opcode map (30_encoding.md R98). -/
def rowsBx : List Row :=
  [⟨0xB0, .core, .f2 .bcs⟩,
   ⟨0xB1, .core, .f2 .ldaIndy⟩,
   ⟨0xB4, .core, .f2 .ldyZpx⟩,
   ⟨0xB5, .core, .f2 .ldaZpx⟩,
   ⟨0xB6, .core, .f2 .ldxZpy⟩,
   ⟨0xB8, .compat, .f1 .clv⟩,
   ⟨0xB9, .core, .f3 .ldaAbsy⟩,
   ⟨0xBA, .compat, .f1 .tsx⟩,
   ⟨0xBC, .core, .f3 .ldyAbsx⟩,
   ⟨0xBD, .core, .f3 .ldaAbsx⟩,
   ⟨0xBE, .core, .f3 .ldxAbsy⟩]

/-- Row Cx of the opcode map (30_encoding.md R98). -/
def rowsCx : List Row :=
  [⟨0xC0, .core, .f2 .cpyImm⟩,
   ⟨0xC1, .core, .f2 .cmpIndx⟩,
   ⟨0xC4, .core, .f2 .cpyZp⟩,
   ⟨0xC5, .core, .f2 .cmpZp⟩,
   ⟨0xC6, .core, .f2 .decZp⟩,
   ⟨0xC8, .core, .f1 .iny⟩,
   ⟨0xC9, .core, .f2 .cmpImm⟩,
   ⟨0xCA, .core, .f1 .dex⟩,
   ⟨0xCC, .core, .f3 .cpyAbs⟩,
   ⟨0xCD, .core, .f3 .cmpAbs⟩,
   ⟨0xCE, .core, .f3 .decAbs⟩]

/-- Row Dx of the opcode map (30_encoding.md R98). -/
def rowsDx : List Row :=
  [⟨0xD0, .core, .f2 .bne⟩,
   ⟨0xD1, .core, .f2 .cmpIndy⟩,
   ⟨0xD5, .core, .f2 .cmpZpx⟩,
   ⟨0xD6, .core, .f2 .decZpx⟩,
   ⟨0xD8, .compat, .f1 .cld⟩,
   ⟨0xD9, .core, .f3 .cmpAbsy⟩,
   ⟨0xDD, .core, .f3 .cmpAbsx⟩,
   ⟨0xDE, .core, .f3 .decAbsx⟩]

/-- Row Ex of the opcode map (30_encoding.md R98). -/
def rowsEx : List Row :=
  [⟨0xE0, .core, .f2 .cpxImm⟩,
   ⟨0xE1, .core, .f2 .sbcIndx⟩,
   ⟨0xE4, .core, .f2 .cpxZp⟩,
   ⟨0xE5, .core, .f2 .sbcZp⟩,
   ⟨0xE6, .core, .f2 .incZp⟩,
   ⟨0xE8, .core, .f1 .inx⟩,
   ⟨0xE9, .core, .f2 .sbcImm⟩,
   ⟨0xEA, .compat, .f1 .nop⟩,
   ⟨0xEC, .core, .f3 .cpxAbs⟩,
   ⟨0xED, .core, .f3 .sbcAbs⟩,
   ⟨0xEE, .core, .f3 .incAbs⟩]

/-- Row Fx of the opcode map (30_encoding.md R98). -/
def rowsFx : List Row :=
  [⟨0xF0, .core, .f2 .beq⟩,
   ⟨0xF1, .core, .f2 .sbcIndy⟩,
   ⟨0xF5, .core, .f2 .sbcZpx⟩,
   ⟨0xF6, .core, .f2 .incZpx⟩,
   ⟨0xF8, .compat, .f1 .sed⟩,
   ⟨0xF9, .core, .f3 .sbcAbsy⟩,
   ⟨0xFD, .core, .f3 .sbcAbsx⟩,
   ⟨0xFE, .core, .f3 .incAbsx⟩]

/-- The 151 standard rows of the opcode map (30_encoding.md R98). -/
def standardRows : List Row :=
  rows0x ++ rows1x ++ rows2x ++ rows3x ++ rows4x ++ rows5x ++ rows6x ++ rows7x ++
  rows8x ++ rows9x ++ rowsAx ++ rowsBx ++ rowsCx ++ rowsDx ++ rowsEx ++ rowsFx

/-- The row of an opcode byte in a list of rows. -/
def findRow (op : Byte) : List Row → Option Row
  | [] => none
  | r :: rest => if r.opcode = op then some r else findRow op rest

/-- The entry of a standard byte when its tier is in the catalogue (30_encoding.md R100). -/
def standardEntry (c : Config) (op : Byte) : Option Entry :=
  match findRow op standardRows with
  | none => none
  | some r =>
    match r.tier with
    | .core => some r.entry
    | .custom => some r.entry
    | .compat => if c.compatExt then some r.entry else none

/-- The dispatch table: opcode byte to entry or absent (30_encoding.md R94), the three custom rows at their parameters
(R99; which of two colliding rows would win is log entry 16, and `Config.wf` excludes a collision). -/
def dispatch (c : Config) (op : Byte) : Option Entry :=
  if op = c.opcCbl then some (.f4 .cbl)
  else if op = c.opcCbs then some (.f4 .cbs)
  else if op = c.opcErr then some (.f1 .err)
  else standardEntry c op

/-! ## The decoder -/

/-- Why bytes decode to no instruction. -/
inductive DecodeError where
  /-- there is no byte to look up -/
  | noBytes
  /-- the opcode byte has no entry in the dispatch table (30_encoding.md R95) -/
  | unknownOpcode (op : Byte)
  /-- the bytes end before the operands the entry's format asks for (30_encoding.md R93) -/
  | truncated (op : Byte)
  deriving DecidableEq, Repr

/-- Operand assembly (30_encoding.md R91): the instruction an entry makes of the bytes after the opcode, and the bytes
left over. -/
def Entry.assemble (e : Entry) (operands : List Byte) : Option (Instr × List Byte) :=
  match e, operands with
  | .f1 i, rest => some (i, rest)
  | .f2 mk, v :: rest => some (mk v, rest)
  | .f3 mk, lo :: hi :: rest => some (mk (wordOf lo hi), rest)
  | .f4 mk, lo :: hi :: len :: rest => some (mk (wordOf lo hi) len, rest)
  | _, _ => none

/-- The decoder: the instruction at the head of a list of bytes and the bytes after it (30_encoding.md R92 to R95). -/
def decode (c : Config) : List Byte → Except DecodeError (Instr × List Byte)
  | [] => .error .noBytes
  | op :: operands =>
    match dispatch c op with
    | none => .error (.unknownOpcode op)
    | some e =>
      match e.assemble operands with
      | none => .error (.truncated op)
      | some r => .ok r

/-! ## The encoder -/

/-- The bytes of an instruction, byte 0 first (30_encoding.md R90, R98). -/
def encode (c : Config) : Instr → List Byte
  | .ldaImm v => [0xA9, v]
  | .ldaZp z => [0xA5, z]
  | .ldaZpx z => [0xB5, z]
  | .ldaAbs a => [0xAD, loByte a, hiByte a]
  | .ldaAbsx a => [0xBD, loByte a, hiByte a]
  | .ldaAbsy a => [0xB9, loByte a, hiByte a]
  | .ldaIndx z => [0xA1, z]
  | .ldaIndy z => [0xB1, z]
  | .ldxImm v => [0xA2, v]
  | .ldxZp z => [0xA6, z]
  | .ldxZpy z => [0xB6, z]
  | .ldxAbs a => [0xAE, loByte a, hiByte a]
  | .ldxAbsy a => [0xBE, loByte a, hiByte a]
  | .ldyImm v => [0xA0, v]
  | .ldyZp z => [0xA4, z]
  | .ldyZpx z => [0xB4, z]
  | .ldyAbs a => [0xAC, loByte a, hiByte a]
  | .ldyAbsx a => [0xBC, loByte a, hiByte a]
  | .staZp z => [0x85, z]
  | .staZpx z => [0x95, z]
  | .staAbs a => [0x8D, loByte a, hiByte a]
  | .staAbsx a => [0x9D, loByte a, hiByte a]
  | .staAbsy a => [0x99, loByte a, hiByte a]
  | .staIndx z => [0x81, z]
  | .staIndy z => [0x91, z]
  | .stxZp z => [0x86, z]
  | .stxZpy z => [0x96, z]
  | .stxAbs a => [0x8E, loByte a, hiByte a]
  | .styZp z => [0x84, z]
  | .styZpx z => [0x94, z]
  | .styAbs a => [0x8C, loByte a, hiByte a]
  | .cmpImm v => [0xC9, v]
  | .cmpZp z => [0xC5, z]
  | .cmpZpx z => [0xD5, z]
  | .cmpAbs a => [0xCD, loByte a, hiByte a]
  | .cmpAbsx a => [0xDD, loByte a, hiByte a]
  | .cmpAbsy a => [0xD9, loByte a, hiByte a]
  | .cmpIndx z => [0xC1, z]
  | .cmpIndy z => [0xD1, z]
  | .cpxImm v => [0xE0, v]
  | .cpxZp z => [0xE4, z]
  | .cpxAbs a => [0xEC, loByte a, hiByte a]
  | .cpyImm v => [0xC0, v]
  | .cpyZp z => [0xC4, z]
  | .cpyAbs a => [0xCC, loByte a, hiByte a]
  | .adcImm v => [0x69, v]
  | .adcZp z => [0x65, z]
  | .adcZpx z => [0x75, z]
  | .adcAbs a => [0x6D, loByte a, hiByte a]
  | .adcAbsx a => [0x7D, loByte a, hiByte a]
  | .adcAbsy a => [0x79, loByte a, hiByte a]
  | .adcIndx z => [0x61, z]
  | .adcIndy z => [0x71, z]
  | .sbcImm v => [0xE9, v]
  | .sbcZp z => [0xE5, z]
  | .sbcZpx z => [0xF5, z]
  | .sbcAbs a => [0xED, loByte a, hiByte a]
  | .sbcAbsx a => [0xFD, loByte a, hiByte a]
  | .sbcAbsy a => [0xF9, loByte a, hiByte a]
  | .sbcIndx z => [0xE1, z]
  | .sbcIndy z => [0xF1, z]
  | .aslAcc => [0x0A]
  | .aslZp z => [0x06, z]
  | .aslZpx z => [0x16, z]
  | .aslAbs a => [0x0E, loByte a, hiByte a]
  | .aslAbsx a => [0x1E, loByte a, hiByte a]
  | .lsrAcc => [0x4A]
  | .lsrZp z => [0x46, z]
  | .lsrZpx z => [0x56, z]
  | .lsrAbs a => [0x4E, loByte a, hiByte a]
  | .lsrAbsx a => [0x5E, loByte a, hiByte a]
  | .rolAcc => [0x2A]
  | .rolZp z => [0x26, z]
  | .rolZpx z => [0x36, z]
  | .rolAbs a => [0x2E, loByte a, hiByte a]
  | .rolAbsx a => [0x3E, loByte a, hiByte a]
  | .rorAcc => [0x6A]
  | .rorZp z => [0x66, z]
  | .rorZpx z => [0x76, z]
  | .rorAbs a => [0x6E, loByte a, hiByte a]
  | .rorAbsx a => [0x7E, loByte a, hiByte a]
  | .bitZp z => [0x24, z]
  | .bitAbs a => [0x2C, loByte a, hiByte a]
  | .andImm v => [0x29, v]
  | .andZp z => [0x25, z]
  | .andZpx z => [0x35, z]
  | .andAbs a => [0x2D, loByte a, hiByte a]
  | .andAbsx a => [0x3D, loByte a, hiByte a]
  | .andAbsy a => [0x39, loByte a, hiByte a]
  | .andIndx z => [0x21, z]
  | .andIndy z => [0x31, z]
  | .oraImm v => [0x09, v]
  | .oraZp z => [0x05, z]
  | .oraZpx z => [0x15, z]
  | .oraAbs a => [0x0D, loByte a, hiByte a]
  | .oraAbsx a => [0x1D, loByte a, hiByte a]
  | .oraAbsy a => [0x19, loByte a, hiByte a]
  | .oraIndx z => [0x01, z]
  | .oraIndy z => [0x11, z]
  | .eorImm v => [0x49, v]
  | .eorZp z => [0x45, z]
  | .eorZpx z => [0x55, z]
  | .eorAbs a => [0x4D, loByte a, hiByte a]
  | .eorAbsx a => [0x5D, loByte a, hiByte a]
  | .eorAbsy a => [0x59, loByte a, hiByte a]
  | .eorIndx z => [0x41, z]
  | .eorIndy z => [0x51, z]
  | .incZp z => [0xE6, z]
  | .incZpx z => [0xF6, z]
  | .incAbs a => [0xEE, loByte a, hiByte a]
  | .incAbsx a => [0xFE, loByte a, hiByte a]
  | .decZp z => [0xC6, z]
  | .decZpx z => [0xD6, z]
  | .decAbs a => [0xCE, loByte a, hiByte a]
  | .decAbsx a => [0xDE, loByte a, hiByte a]
  | .inx => [0xE8]
  | .iny => [0xC8]
  | .dex => [0xCA]
  | .dey => [0x88]
  | .tax => [0xAA]
  | .tay => [0xA8]
  | .txa => [0x8A]
  | .tya => [0x98]
  | .tsx => [0xBA]
  | .txs => [0x9A]
  | .pha => [0x48]
  | .pla => [0x68]
  | .php => [0x08]
  | .plp => [0x28]
  | .bpl off => [0x10, off]
  | .bmi off => [0x30, off]
  | .bvc off => [0x50, off]
  | .bvs off => [0x70, off]
  | .bcc off => [0x90, off]
  | .bcs off => [0xB0, off]
  | .bne off => [0xD0, off]
  | .beq off => [0xF0, off]
  | .jmpAbs a => [0x4C, loByte a, hiByte a]
  | .jmpInd a => [0x6C, loByte a, hiByte a]
  | .jsr a => [0x20, loByte a, hiByte a]
  | .rts => [0x60]
  | .clc => [0x18]
  | .sec => [0x38]
  | .cli => [0x58]
  | .sei => [0x78]
  | .clv => [0xB8]
  | .cld => [0xD8]
  | .sed => [0xF8]
  | .nop => [0xEA]
  | .brk => [0x00]
  | .err => [c.opcErr]
  | .rti => [0x40]
  | .cbl a len => [c.opcCbl, loByte a, hiByte a, len]
  | .cbs a len => [c.opcCbs, loByte a, hiByte a, len]

/-! ## Words numbered as spec/opcode_table.json numbers them -/

/-- The first `n` bytes of a number, least significant byte first. -/
def bytesOfNat : Nat → Nat → List Byte
  | 0, _ => []
  | n + 1, w => BitVec.ofNat 8 w :: bytesOfNat n (w / 256)

/-- The four bytes, byte 0 first, of an instruction whose low `nbits` bits are those of `w` and whose other bits are 0. -/
def tableBytes (nbits w : Nat) : List Byte := bytesOfNat 4 (w % 2 ^ nbits)

/-- The instruction the decoder reads from a table word, with the whole catalogue (COMPAT tier included) and the default
custom opcodes (log entry 6). -/
def decodeTableWord (nbits w : Nat) : Option Instr :=
  match decode Config.full (tableBytes nbits w) with
  | .ok (i, _) => some i
  | .error _ => none

end Sys2Proof
end

