-- ==== Sys2Proof/Machine/State.lean ====
section
/-! DEFINITION. The machine's state as plain data (10_state.md R20 to R49), its faults and refusals, and reset. -/

namespace Sys2Proof.Machine

/-- Why the core is Halted for good, with what the event records (10_state.md R40, 60_exceptions.md R250 to R257).
`a0` is the address of the opcode byte. -/
inductive HaltReason where
  /-- an opcode byte with no dispatch entry (60_exceptions.md R252) -/
  | unknownOpcode (a0 : Word) (opcode : Byte)
  /-- the BRK instruction, the spec's `Break` (60_exceptions.md R253) -/
  | brk (a0 : Word)
  /-- the ERR instruction (60_exceptions.md R254) -/
  | softwareError (a0 : Word)
  /-- the service loop ran out of its budget (60_exceptions.md R255) -/
  | runawayInterrupt
  /-- `MAX_INTERVALS` intervals have run: the graceful end (60_exceptions.md R256) -/
  | intervalLimit
  deriving DecidableEq, Repr

/-- The run state (10_state.md R40). -/
inductive RunState where
  | idle
  | running
  | servicing
  | suspended
  | halted (reason : HaltReason)
  deriving DecidableEq, Repr

/-- An input of the control, drive or keyboard port (60_exceptions.md R285). -/
inductive Input where
  /-- control: reset (70_reset_and_hazards.md R300) -/
  | reset
  /-- control: `go/start` (60_exceptions.md R277) -/
  | go
  /-- control: `suspend` (60_exceptions.md R276) -/
  | suspend
  /-- control: `resume` (60_exceptions.md R275) -/
  | resume
  /-- drive: "drive one interval" (60_exceptions.md R285) -/
  | drive
  /-- the keyboard producer adds a key code to its queue (10_state.md R48) -/
  | key (code : Byte)
  deriving DecidableEq, Repr

/-- What the drive port answers (60_exceptions.md R285). -/
inductive DriveAnswer where
  | goOn
  | suspended
  | halted (reason : HaltReason)
  deriving DecidableEq, Repr

/-- Memory: the addresses that do not read as `Memory.unlisted`, with their bytes (20_memory.md R60, R61). -/
abbrev Memory := List Host.Cell

/-- What an address reads as that memory does not list: DESIGN CHOICE 0x00, since the spec gives memory no initial
contents (20_memory.md R79, log entry 4). -/
def Memory.unlisted : Byte := 0x00

/-- The canonical form: addresses strictly rising and below 65,536, no entry equal to what an unlisted address reads as. -/
def Memory.wf : Memory → Bool
  | [] => true
  | [c] => decide (c.1 < 65536) && c.2 != Memory.unlisted
  | c :: d :: rest => decide (c.1 < d.1) && c.2 != Memory.unlisted && Memory.wf (d :: rest)

/-- The whole state of the machine. -/
@[ext]
structure State where
  /-- `A` (10_state.md R21) -/
  a : Byte
  /-- `X` (10_state.md R22) -/
  x : Byte
  /-- `Y` (10_state.md R23) -/
  y : Byte
  /-- `SP` (10_state.md R24) -/
  sp : Byte
  /-- `P` (10_state.md R30) -/
  p : Byte
  /-- `PC` (10_state.md R25) -/
  pc : Word
  /-- `run` (10_state.md R40) -/
  run : RunState
  /-- `in_progress` (10_state.md R41) -/
  inProgress : Bool
  /-- `just_resumed` (10_state.md R42) -/
  justResumed : Bool
  /-- `interval_count` (10_state.md R43) -/
  intervalCount : Nat
  /-- The steps run so far in the interval under way; `none` between intervals (10_state.md R44). -/
  intervalSteps : Option Nat
  /-- The steps run so far in the service loop (10_state.md R44). -/
  serviceSteps : Nat
  /-- The memory (20_memory.md R60). -/
  mem : Memory
  /-- The keyboard queue, oldest key first (10_state.md R48). -/
  keyQueue : List Byte
  /-- The inputs of the host and the keyboard producer that no step has taken yet (60_exceptions.md R285; log entry 11). -/
  inbox : List Input
  /-- The annotations emitted so far with their addresses, oldest first (60_exceptions.md R261; log entry 17). -/
  emitted : List (Word × Annotation)
  /-- The model's own counter of free values read so far (log entry 8). -/
  freeIndex : Nat
  /-- The parameters and the breakpoint tables (00_scope.md R7, 10_state.md R47); no step writes it (log entry 1). -/
  cfg : Config
  deriving DecidableEq, Repr

/-- Why a step can stop with a fault. -/
inductive Fault where
  /-- Raised by the controller when a step is asked of a Halted machine and no input waits: no instruction runs any more
  (60_exceptions.md R251). Safe: the spec gives such a step no effect (log entry 12). -/
  | halted (reason : HaltReason)
  deriving DecidableEq, Repr

/-- Why a step can be refused: beside the host's own reason, the spec's four `refuse` points (00_scope.md R14, log entry 14). -/
inductive Refusal where
  /-- Raised by an arm of exec that has no meaning yet. Safe. -/
  | notModelled (mnemonic : String)
  /-- Raised by the INDX and INDY forms: the pointer's low byte is at 0x00FF and `ZP_PTR_WRAP` is `refuse`
  (40_addressing.md R134). Safe: the spec gives the access no meaning. -/
  | zeroPagePointerAtFF
  /-- Raised by CBL and CBS: the block is longer than the cache region (49_system_custom.md R240). Safe: no meaning. -/
  | blockLongerThanCache
  /-- Raised by CBL and CBS: the block runs past 0xFFFF (49_system_custom.md R240). Safe: no meaning. -/
  | blockPastEnd
  /-- Raised by the controller: a suspend point met while servicing an interrupt (60_exceptions.md R272). Safe: no meaning. -/
  | suspendWhileServicing
  deriving DecidableEq, Repr

/-- What an instruction or a step answers. -/
abbrev Result := Host.Outcome State Fault Refusal

/-- The machine right after its creation with parameters `c` and the assembler's image `image` in memory
(10_state.md R49, 70_reset_and_hazards.md R301, R303). Reset is no write through the setters: P is 0 whatever A, X, Y hold.
DESIGN CHOICE: the keyboard queue starts empty, since the spec gives the producer's queue no contents at creation
(10_state.md R48, 70_reset_and_hazards.md R300; log entry 25). -/
def State.boot (c : Config) (image : Memory) : State where
  a := c.resetA
  x := c.resetX
  y := c.resetY
  sp := 0xFF
  p := 0x00
  pc := c.programStart
  run := .idle
  inProgress := false
  justResumed := false
  intervalCount := 0
  intervalSteps := none
  serviceSteps := 0
  mem := image
  keyQueue := []
  inbox := []
  emitted := []
  freeIndex := 0
  cfg := c

/-- The machine right after reset, with nothing loaded (10_state.md R49). -/
def State.reset : State := State.boot Config.default []

end Sys2Proof.Machine
end

