-- ==== Sys2Proof/Machine/Flags.lean ====
section
/-! DEFINITION. The status register's flags (10_state.md R30 to R39) and every flag computation of the instruction files.
Arithmetic is computed exactly on integers and then narrowed (42_arithmetic_compare.md R156). -/

namespace Sys2Proof.Machine

/-- The eight fields of P (10_state.md R30). -/
inductive Flag where
  | n
  | v
  | u
  | b
  | d
  | i
  | z
  | c
  deriving DecidableEq, Repr

/-- The bit number of a flag (10_state.md R30). -/
def Flag.bit : Flag → Nat
  | .n => 7
  | .v => 6
  | .u => 5
  | .b => 4
  | .d => 3
  | .i => 2
  | .z => 1
  | .c => 0

/-- The mask of a flag (10_state.md R30). -/
def Flag.mask : Flag → Byte
  | .n => 0x80
  | .v => 0x40
  | .u => 0x20
  | .b => 0x10
  | .d => 0x08
  | .i => 0x04
  | .z => 0x02
  | .c => 0x01

/-- Reads one flag of a status byte. -/
def getFlag (f : Flag) (p : Byte) : Bool := p.getLsbD f.bit

/-- Writes one flag of a status byte and leaves the others (00_scope.md R10). -/
def putFlag (f : Flag) (e : Bool) (p : Byte) : Byte := if e then p ||| f.mask else p &&& ~~~f.mask

/-- `P.Z <- (v == 0); P.N <- v[7]` (00_scope.md R11). -/
def putNZ (v p : Byte) : Byte := putFlag .n (v.getLsbD 7) (putFlag .z (v == 0) p)

/-- `Compare(reg, mem)` on the status byte (42_arithmetic_compare.md R155). -/
def compareFlags (reg mem p : Byte) : Byte :=
  let d : Int := (reg.toNat : Int) - (mem.toNat : Int)
  putFlag .n ((BitVec.ofInt 8 d).getLsbD 7) (putFlag .z (d % 256 == 0) (putFlag .c (decide (mem.toNat ≤ reg.toNat)) p))

/-- The exact sum of ADC, with no carry-in (42_arithmetic_compare.md R153). -/
def adcSum (a v : Byte) : Nat := a.toNat + v.toNat

/-- The Carry of ADC (42_arithmetic_compare.md R153). -/
def adcCarry (a v : Byte) : Bool := decide (255 < adcSum a v)

/-- The exact difference of SBC: `A - v - (1 - P.C)` (42_arithmetic_compare.md R154; 90_conflicts.md C1: the formula wins). -/
def sbcDiff (a v : Byte) (carry : Bool) : Int := (a.toNat : Int) - (v.toNat : Int) - (1 - (carry.toNat : Int))

/-- The difference of SBC narrowed to a byte (42_arithmetic_compare.md R156). -/
def sbcByte (a v : Byte) (carry : Bool) : Byte := BitVec.ofInt 8 (sbcDiff a v carry)

/-- The Carry of SBC: no borrow (42_arithmetic_compare.md R154). -/
def sbcCarry (a v : Byte) (carry : Bool) : Bool := decide (0 ≤ sbcDiff a v carry)

/-- The Overflow of SBC: the sign of the accumulator changed (42_arithmetic_compare.md R154, 92_eei_decisions.md D15). -/
def sbcOverflow (a v : Byte) (carry : Bool) : Bool := a.getLsbD 7 != (sbcByte a v carry).getLsbD 7

/-- The flags of BIT (44_bit_logic.md R170). -/
def bitFlags (m a p : Byte) : Byte :=
  putFlag .z ((m &&& a) == 0) (putFlag .v (m.getLsbD 6) (putFlag .n (m.getLsbD 7) p))

/-- What a shift or rotate makes of a byte: the Carry and the result (43_shift_rotate.md R160 to R163). -/
structure Shifted where
  carry : Bool
  byte : Byte
  deriving DecidableEq, Repr

/-- `Op_ASL` (43_shift_rotate.md R160). -/
def aslOp (v : Byte) : Shifted := ⟨v.getLsbD 7, BitVec.ofNat 8 (v.toNat * 2)⟩

/-- `Op_LSR` (43_shift_rotate.md R161). -/
def lsrOp (v : Byte) : Shifted := ⟨v.getLsbD 0, BitVec.ofNat 8 (v.toNat / 2)⟩

/-- `Op_ROL`: the outgoing bit 7 re-enters at bit 0 (43_shift_rotate.md R162, 90_conflicts.md C6). -/
def rolOp (v : Byte) : Shifted :=
  ⟨v.getLsbD 7, BitVec.ofNat 8 (v.toNat * 2) ||| (if v.getLsbD 7 then 0x01 else 0x00)⟩

/-- `Op_ROR`: the outgoing bit 0 re-enters at bit 7 (43_shift_rotate.md R163). -/
def rorOp (v : Byte) : Shifted :=
  ⟨v.getLsbD 0, BitVec.ofNat 8 (v.toNat / 2) ||| (if v.getLsbD 0 then 0x80 else 0x00)⟩

end Sys2Proof.Machine
end

