-- ==== Sys2Proof/Machine/Ops.lean ====
section
/-! DEFINITION. The named operations over memory and registers (00_scope.md R11 to R14), fatal events, interrupt entry
and the return from it (60_exceptions.md R251, R266, 49_system_custom.md R237), reset and the host's inputs. -/

namespace Sys2Proof.Machine

/-! ## Memory -/

/-- The byte at an address of the store (20_memory.md R61). -/
def Memory.read : Memory → Nat → Byte
  | [], _ => Memory.unlisted
  | c :: rest, a => if c.1 = a then c.2 else Memory.read rest a

/-- Replaces the byte at an address, keeping the canonical form (20_memory.md R61, R62). -/
def Memory.write : Memory → Nat → Byte → Memory
  | [], a, v => if v = Memory.unlisted then [] else [(a, v)]
  | c :: rest, a, v =>
    if a < c.1 then (if v = Memory.unlisted then c :: rest else (a, v) :: c :: rest)
    else if a = c.1 then (if v = Memory.unlisted then rest else (a, v) :: rest)
    else c :: Memory.write rest a v

/-- `MemRead(addr, 1)` (00_scope.md R12). -/
def State.readByte (s : State) (addr : Word) : Byte := s.mem.read addr.toNat

/-- `MemWrite(addr, 1, v)` (00_scope.md R12): every address accepts a write (20_memory.md R62). -/
def State.writeByte (s : State) (addr : Word) (v : Byte) : State := { s with mem := s.mem.write addr.toNat v }

/-- `Read16(a)` (00_scope.md R12). -/
def State.readWord (s : State) (addr : Word) : Word := wordOf (s.readByte addr) (s.readByte (addr + 1))

/-! ## Registers -/

/-- `SetA` (00_scope.md R11). -/
def State.setA (s : State) (v : Byte) : State := { s with a := v, p := putNZ v s.p }

/-- `SetX` (00_scope.md R11). -/
def State.setX (s : State) (v : Byte) : State := { s with x := v, p := putNZ v s.p }

/-- `SetY` (00_scope.md R11). -/
def State.setY (s : State) (v : Byte) : State := { s with y := v, p := putNZ v s.p }

/-- `SetPC` (00_scope.md R11). -/
def State.setPC (s : State) (v : Word) : State := { s with pc := v }

/-- `SetSP`: no flag effect (00_scope.md R11). -/
def State.setSP (s : State) (v : Byte) : State := { s with sp := v }

/-- `SetP`: all eight bits as given (00_scope.md R11). -/
def State.setP (s : State) (v : Byte) : State := { s with p := v }

/-- A flag of P. -/
def State.flag (s : State) (f : Flag) : Bool := getFlag f s.p

/-- `P.f <- e` (00_scope.md R10). -/
def State.setFlag (s : State) (f : Flag) (e : Bool) : State := { s with p := putFlag f e s.p }

/-- PC past the `n` bytes of an instruction, as its fetches leave it (10_state.md R26, R27). -/
def State.advance (s : State) (n : Nat) : State := { s with pc := s.pc + BitVec.ofNat 16 n }

/-! ## The stack (00_scope.md R13, 10_state.md R24) -/

/-- The address of the stack cell a stack pointer names: `0x0100 + SP`. -/
def stackAddr (sp : Byte) : Word := 0x0100 + sp.setWidth 16

/-- `Push(v)`: write, then decrement. -/
def State.push (s : State) (v : Byte) : State := (s.writeByte (stackAddr s.sp) v).setSP (s.sp - 1)

/-- The byte `Pull()` returns. -/
def State.pulled (s : State) : Byte := s.readByte (stackAddr (s.sp + 1))

/-- The state `Pull()` leaves: SP incremented. -/
def State.dropTop (s : State) : State := s.setSP (s.sp + 1)

/-! ## Block moves (49_system_custom.md R240) -/

/-- The `n` bytes from an address on, all read from one state. -/
def State.readBlock (s : State) (src : Word) : Nat → List Byte
  | 0 => []
  | n + 1 => s.readByte src :: s.readBlock (src + 1) n

/-- Writes bytes at rising addresses. -/
def State.writeBlock (s : State) (dst : Word) : List Byte → State
  | [] => s
  | b :: rest => (s.writeByte dst b).writeBlock (dst + 1) rest

/-- `BlockCopy(src, dst, n)`: all reads first, then all writes; refused outside the spec's bounds. -/
def blockCopy (src dst : Word) (n : Nat) (s : State) : Result :=
  if s.cfg.cacheSize < n then .refused .blockLongerThanCache
  else if 65536 < src.toNat + n ∨ 65536 < dst.toNat + n then .refused .blockPastEnd
  else .next (s.writeBlock dst (s.readBlock src n))

/-! ## Fatal events (00_scope.md R14, 60_exceptions.md R251) -/

/-- Ends execution for good: `run <- Halted(reason)` and nothing else. -/
def State.halt (s : State) (r : HaltReason) : State := { s with run := .halted r }

/-- `raise` for UnknownOpcode, Break and SoftwareError: Halted, with PC unspecified, a free value (60_exceptions.md R251,
93_implementation_defined.md U10, log entry 8); no other register, flag or memory byte changes. -/
def State.raiseFatal (s : State) (r : HaltReason) : State :=
  { s with run := .halted r, pc := Config.freeWord s.freeIndex, freeIndex := s.freeIndex + 1 }

/-! ## The interrupt (60_exceptions.md R264 to R269) -/

/-- The cells the keyboard drain may write: the count cell and the data region (60_exceptions.md R268, log entry 9). -/
def kbdCells (c : Config) : List Word :=
  c.kbdCountAddr :: (List.range c.kbdCapacity).map (fun k => c.kbdDataStart + BitVec.ofNat 16 k)

/-- Writes a free byte to each address of a list, numbering the free bytes from `k`. -/
def fillFree (m : Memory) (k : Nat) : List Word → Memory
  | [] => m
  | addr :: rest => fillFree (m.write addr.toNat (Config.freeByte k)) (k + 1) rest

/-- `KeyboardDrain()` (60_exceptions.md R268): an empty queue changes nothing; else the queue is emptied and the keyboard
cells hold unknown bytes (93_implementation_defined.md U9). -/
def State.keyboardDrain (s : State) : State :=
  match s.keyQueue with
  | [] => s
  | _ :: _ =>
    { s with
      mem := fillFree s.mem s.freeIndex (kbdCells s.cfg)
      keyQueue := []
      freeIndex := s.freeIndex + (kbdCells s.cfg).length }

/-- The address of the interrupt vector cell (20_memory.md R63). -/
def vectorAddr : Word := 0xFFFE

/-- `InterruptEntry()` (60_exceptions.md R266), TAKING THE INTERRUPT: drain, read the vector, push PC high, PC low, P, go to
the vector's address, mark. No flag changes. -/
def State.interruptEntry (s : State) : State :=
  let s1 := { s with run := .servicing }.keyboardDrain
  let vector := s1.readWord vectorAddr
  let s2 := ((s1.push (hiByte s1.pc)).push (loByte s1.pc)).push s1.p
  { s2.setPC vector with inProgress := true, serviceSteps := 0 }

/-- The return from the interrupt (49_system_custom.md R237): pull P, then PC low, then PC high; clear the mark. -/
def State.returnFromInterrupt (s : State) : State :=
  let s1 := s.dropTop.setP s.pulled
  let lo := s1.pulled
  let s2 := s1.dropTop
  let hi := s2.pulled
  let s3 := s2.dropTop.setPC (wordOf lo hi)
  { s3 with inProgress := false }

/-! ## The breakpoint tables (10_state.md R47) -/

/-- `debug_at(a)` -/
def Config.debugAt (c : Config) (addr : Word) : List Annotation :=
  (c.debugTable.filter (fun e => e.1 == addr)).map (fun e => e.2)

/-- `suspend_at(a)` -/
def Config.suspendAt (c : Config) (addr : Word) : Bool := c.suspendTable.contains addr

/-- Emits every annotation of an address, in order (60_exceptions.md R261). -/
def State.emitAt (s : State) (addr : Word) : State :=
  { s with emitted := s.emitted ++ (Config.debugAt s.cfg addr).map (fun n => (addr, n)) }

/-! ## Intervals and the host (60_exceptions.md R259, R273 to R277) -/

/-- The start of `Interval()`: the limit test, then the count (60_exceptions.md R273, R274). -/
def State.startInterval (s : State) : State :=
  if s.cfg.maxIntervals ≤ s.intervalCount then s.halt .intervalLimit
  else { s with intervalCount := s.intervalCount + 1, intervalSteps := some 0 }

/-- A step meets a suspend point in an interval: parked, the rest of the interval dropped (60_exceptions.md R262, R273). -/
def State.park (s : State) : State := { s with run := .suspended, intervalSteps := none }

/-- The end of an interval's steps: the interrupt if `P.I` is clear, else nothing (60_exceptions.md R264, R265, R273). -/
def State.endInterval (s : State) : State :=
  let s1 := { s with intervalSteps := none }
  if s1.flag .i then s1 else s1.interruptEntry

/-- The end of the service loop (60_exceptions.md R267, R269). -/
def State.endService (s : State) : State := { s with run := .running, serviceSteps := 0 }

/-- Reset in any run state (70_reset_and_hazards.md R300, R301): memory, the parameters and what is outside the core (the
queues, the output) stay. -/
def State.applyReset (s : State) : State :=
  { State.boot s.cfg s.mem with
    keyQueue := s.keyQueue
    inbox := s.inbox
    emitted := s.emitted
    freeIndex := s.freeIndex }

/-- `go/start` (60_exceptions.md R277). -/
def State.goStart (s : State) : State :=
  match s.run with
  | .idle => { s with run := .running }
  | _ => s

/-- The host's `suspend`, taken between intervals (60_exceptions.md R276). -/
def State.hostSuspend (s : State) : State :=
  match s.run with
  | .running => { s with run := .suspended }
  | _ => s

/-- `resume`: one interval starts at once (60_exceptions.md R275). -/
def State.hostResume (s : State) : State :=
  match s.run with
  | .suspended => { s with run := .running, justResumed := true }.startInterval
  | _ => s

/-- "drive one interval": starts the next interval of a Running machine (60_exceptions.md R273, R285). -/
def State.hostDrive (s : State) : State :=
  match s.run with
  | .running => s.startInterval
  | _ => s

/-- A key code joins the producer's queue (10_state.md R48). -/
def State.pressKey (s : State) (code : Byte) : State := { s with keyQueue := s.keyQueue ++ [code] }

/-- What an input does where it may be taken. -/
def State.takeInput (s : State) : Input → State
  | .reset => s.applyReset
  | .go => s.goStart
  | .suspend => s.hostSuspend
  | .resume => s.hostResume
  | .drive => s.hostDrive
  | .key code => s.pressKey code

/-- The host has control: not inside an interval, not in the service loop (60_exceptions.md R276). -/
def State.hostHasControl (s : State) : Bool :=
  match s.run with
  | .idle => true
  | .running => s.intervalSteps.isNone
  | .servicing => false
  | .suspended => true
  | .halted _ => true

/-- Whether an input may be taken now: reset and a key at any step boundary, the rest where the host has control. -/
def State.mayTake (s : State) : Input → Bool
  | .reset => true
  | .key _ => true
  | .go => s.hostHasControl
  | .suspend => s.hostHasControl
  | .resume => s.hostHasControl
  | .drive => s.hostHasControl

/-! ## Diagnostics (60_exceptions.md R282, R285) -/

/-- The register and flag snapshot query. -/
structure Snapshot where
  a : Byte
  x : Byte
  y : Byte
  sp : Byte
  p : Byte
  pc : Word
  deriving DecidableEq, Repr

/-- The register and flag snapshot: reads state, changes none. -/
def State.snapshot (s : State) : Snapshot := ⟨s.a, s.x, s.y, s.sp, s.p, s.pc⟩

/-- The 16-byte memory window from an address on; past 0xFFFF it wraps (log entry 20). -/
def State.memoryWindow (s : State) (addr : Word) : List Byte := s.readBlock addr 16

/-- What the drive port answers, read from the state after the interval driven (60_exceptions.md R285; `goOn` is the
spec's `continue`). DESIGN CHOICE: what it answers to a drive made outside Running, where the precondition of `Interval()`
fails (60_exceptions.md R273): by the run state all the same, and goOn in Idle and in Servicing (log entry 26). -/
def State.driveAnswer (s : State) : DriveAnswer :=
  match s.run with
  | .suspended => .suspended
  | .halted r => .halted r
  | .idle => .goOn
  | .running => .goOn
  | .servicing => .goOn

end Sys2Proof.Machine
end

