-- ==== Sys2Proof/Machine/Operands.lean ====
section
/-! DEFINITION. The addressing-mode resolver (40_addressing.md): the address query and the value query of every form, and
the shapes in which instructions use them. All read the state at the instruction's opcode byte. -/

namespace Sys2Proof.Machine

/-- `sext_8(b)` widened to an address (00_scope.md R9). -/
def sext8 (b : Byte) : Word := b.signExtend 16

/-- The length of an instruction whose operand has a form: the opcode and the operand bytes (30_encoding.md R103). -/
def formLength : Form → Nat
  | .imm _ => 2
  | .zp _ => 2
  | .zpx _ => 2
  | .zpy _ => 2
  | .abs _ => 3
  | .absx _ => 3
  | .absy _ => 3
  | .indx _ => 2
  | .indy _ => 2

/-- `ZpPtr(p)` (40_addressing.md R134). -/
def zpPointer (s : State) (p : Byte) : Except Refusal Word :=
  if p = 0xFF then
    match s.cfg.zpPtrWrap with
    | .wrap => .ok (wordOf (s.readByte 0x00FF) (s.readByte 0x0000))
    | .linear => .ok (wordOf (s.readByte 0x00FF) (s.readByte 0x0100))
    | .refuse => .error .zeroPagePointerAtFF
  else .ok (wordOf (s.readByte (p.setWidth 16)) (s.readByte (p.setWidth 16 + 1)))

/-- `Addr_<FORM>()` (40_addressing.md R120 to R129): IMM names the address of the operand byte itself. -/
def formAddress (f : Form) (s : State) : Except Refusal Word :=
  match f with
  | .imm _ => .ok (s.pc + 1)
  | .zp z => .ok (z.setWidth 16)
  | .zpx z => .ok ((z + s.x).setWidth 16)
  | .zpy z => .ok ((z + s.y).setWidth 16)
  | .abs a => .ok a
  | .absx a => .ok (a + s.x.setWidth 16)
  | .absy a => .ok (a + s.y.setWidth 16)
  | .indx z => zpPointer s (z + s.x)
  | .indy z =>
    match zpPointer s z with
    | .ok base => .ok (base + s.y.setWidth 16)
    | .error r => .error r

/-- `Val_<FORM>()` (40_addressing.md R120, R121): the operand byte, or the byte at the effective address. -/
def formValue (f : Form) (s : State) : Except Refusal Byte :=
  match f with
  | .imm v => .ok v
  | .zp z => .ok (s.readByte (z.setWidth 16))
  | .zpx z => .ok (s.readByte ((z + s.x).setWidth 16))
  | .zpy z => .ok (s.readByte ((z + s.y).setWidth 16))
  | .abs a => .ok (s.readByte a)
  | .absx a => .ok (s.readByte (a + s.x.setWidth 16))
  | .absy a => .ok (s.readByte (a + s.y.setWidth 16))
  | .indx z =>
    match formAddress (.indx z) s with
    | .ok ea => .ok (s.readByte ea)
    | .error r => .error r
  | .indy z =>
    match formAddress (.indy z) s with
    | .ok ea => .ok (s.readByte ea)
    | .error r => .error r

/-- An instruction that uses the value query: the value, with PC past the instruction (40_addressing.md R120, R136). -/
def withValue (f : Form) (s : State) (act : Byte → State → State) : Result :=
  match formValue f s with
  | .ok v => .next (act v (s.advance (formLength f)))
  | .error r => .refused r

/-- An instruction that uses the address query: the address, with PC past the instruction (40_addressing.md R120, R136). -/
def withAddress (f : Form) (s : State) (act : Word → State → State) : Result :=
  match formAddress f s with
  | .ok ea => .next (act ea (s.advance (formLength f)))
  | .error r => .refused r

/-- `Target_REL()` (40_addressing.md R130): from the address of the next instruction. -/
def relTarget (s : State) (off : Byte) : Word := s.pc + 2 + sext8 off

/-- The pointer read of `Addr_IND()`, with no page-wrap defect (40_addressing.md R132). -/
def indTarget (s : State) (a : Word) : Word := s.readWord a

end Sys2Proof.Machine
end

