-- ==== Sys2Proof/Machine/Arithmetic.lean ====
section
/-! DEFINITION. Arithmetic and compare (42_arithmetic_compare.md): the meaning of each. -/

namespace Sys2Proof.Machine

/-- CMP in any form (42_arithmetic_compare.md R150). -/
def compareA (f : Form) (s : State) : Result :=
  withValue f s (fun m t => t.setP (compareFlags t.a m t.p))

/-- CPX in any form (42_arithmetic_compare.md R151). -/
def compareX (f : Form) (s : State) : Result :=
  withValue f s (fun m t => t.setP (compareFlags t.x m t.p))

/-- CPY in any form (42_arithmetic_compare.md R152). -/
def compareY (f : Form) (s : State) : Result :=
  withValue f s (fun m t => t.setP (compareFlags t.y m t.p))

/-- ADC in any form: Carry written, never read; Overflow untouched (42_arithmetic_compare.md R153, R157). -/
def addA (f : Form) (s : State) : Result :=
  withValue f s (fun v t => (t.setFlag .c (adcCarry t.a v)).setA (BitVec.ofNat 8 (adcSum t.a v)))

/-- SBC in any form (42_arithmetic_compare.md R154, R157). -/
def subtractA (f : Form) (s : State) : Result :=
  withValue f s (fun v t =>
    ((t.setFlag .c (sbcCarry t.a v (t.flag .c))).setFlag .v (sbcOverflow t.a v (t.flag .c))).setA
      (sbcByte t.a v (t.flag .c)))

/-- CMP IMM (42_arithmetic_compare.md R150). -/
def execCmpImm (v : Byte) (s : State) : Result :=
  compareA (.imm v) s

/-- CMP ZP (42_arithmetic_compare.md R150). -/
def execCmpZp (z : Byte) (s : State) : Result :=
  compareA (.zp z) s

/-- CMP ZPX (42_arithmetic_compare.md R150). -/
def execCmpZpx (z : Byte) (s : State) : Result :=
  compareA (.zpx z) s

/-- CMP ABS (42_arithmetic_compare.md R150). -/
def execCmpAbs (a : Word) (s : State) : Result :=
  compareA (.abs a) s

/-- CMP ABSX (42_arithmetic_compare.md R150). -/
def execCmpAbsx (a : Word) (s : State) : Result :=
  compareA (.absx a) s

/-- CMP ABSY (42_arithmetic_compare.md R150). -/
def execCmpAbsy (a : Word) (s : State) : Result :=
  compareA (.absy a) s

/-- CMP INDX (42_arithmetic_compare.md R150). -/
def execCmpIndx (z : Byte) (s : State) : Result :=
  compareA (.indx z) s

/-- CMP INDY (42_arithmetic_compare.md R150). -/
def execCmpIndy (z : Byte) (s : State) : Result :=
  compareA (.indy z) s

/-- CPX IMM (42_arithmetic_compare.md R151). -/
def execCpxImm (v : Byte) (s : State) : Result :=
  compareX (.imm v) s

/-- CPX ZP (42_arithmetic_compare.md R151). -/
def execCpxZp (z : Byte) (s : State) : Result :=
  compareX (.zp z) s

/-- CPX ABS (42_arithmetic_compare.md R151). -/
def execCpxAbs (a : Word) (s : State) : Result :=
  compareX (.abs a) s

/-- CPY IMM (42_arithmetic_compare.md R152). -/
def execCpyImm (v : Byte) (s : State) : Result :=
  compareY (.imm v) s

/-- CPY ZP (42_arithmetic_compare.md R152). -/
def execCpyZp (z : Byte) (s : State) : Result :=
  compareY (.zp z) s

/-- CPY ABS (42_arithmetic_compare.md R152). -/
def execCpyAbs (a : Word) (s : State) : Result :=
  compareY (.abs a) s

/-- ADC IMM (42_arithmetic_compare.md R153). -/
def execAdcImm (v : Byte) (s : State) : Result :=
  addA (.imm v) s

/-- ADC ZP (42_arithmetic_compare.md R153). -/
def execAdcZp (z : Byte) (s : State) : Result :=
  addA (.zp z) s

/-- ADC ZPX (42_arithmetic_compare.md R153). -/
def execAdcZpx (z : Byte) (s : State) : Result :=
  addA (.zpx z) s

/-- ADC ABS (42_arithmetic_compare.md R153). -/
def execAdcAbs (a : Word) (s : State) : Result :=
  addA (.abs a) s

/-- ADC ABSX (42_arithmetic_compare.md R153). -/
def execAdcAbsx (a : Word) (s : State) : Result :=
  addA (.absx a) s

/-- ADC ABSY (42_arithmetic_compare.md R153). -/
def execAdcAbsy (a : Word) (s : State) : Result :=
  addA (.absy a) s

/-- ADC INDX (42_arithmetic_compare.md R153). -/
def execAdcIndx (z : Byte) (s : State) : Result :=
  addA (.indx z) s

/-- ADC INDY (42_arithmetic_compare.md R153). -/
def execAdcIndy (z : Byte) (s : State) : Result :=
  addA (.indy z) s

/-- SBC IMM (42_arithmetic_compare.md R154). -/
def execSbcImm (v : Byte) (s : State) : Result :=
  subtractA (.imm v) s

/-- SBC ZP (42_arithmetic_compare.md R154). -/
def execSbcZp (z : Byte) (s : State) : Result :=
  subtractA (.zp z) s

/-- SBC ZPX (42_arithmetic_compare.md R154). -/
def execSbcZpx (z : Byte) (s : State) : Result :=
  subtractA (.zpx z) s

/-- SBC ABS (42_arithmetic_compare.md R154). -/
def execSbcAbs (a : Word) (s : State) : Result :=
  subtractA (.abs a) s

/-- SBC ABSX (42_arithmetic_compare.md R154). -/
def execSbcAbsx (a : Word) (s : State) : Result :=
  subtractA (.absx a) s

/-- SBC ABSY (42_arithmetic_compare.md R154). -/
def execSbcAbsy (a : Word) (s : State) : Result :=
  subtractA (.absy a) s

/-- SBC INDX (42_arithmetic_compare.md R154). -/
def execSbcIndx (z : Byte) (s : State) : Result :=
  subtractA (.indx z) s

/-- SBC INDY (42_arithmetic_compare.md R154). -/
def execSbcIndy (z : Byte) (s : State) : Result :=
  subtractA (.indy z) s

end Sys2Proof.Machine
end

