-- ==== Sys2Proof/Machine/BitLogic.lean ====
section
/-! DEFINITION. Bit test and logic (44_bit_logic.md): the meaning of each. -/

namespace Sys2Proof.Machine

/-- BIT in any form (44_bit_logic.md R170). -/
def bitTest (f : Form) (s : State) : Result :=
  withValue f s (fun m t => t.setP (bitFlags m t.a t.p))

/-- AND in any form (44_bit_logic.md R171). -/
def andA (f : Form) (s : State) : Result :=
  withValue f s (fun m t => t.setA (t.a &&& m))

/-- ORA in any form (44_bit_logic.md R172). -/
def orA (f : Form) (s : State) : Result :=
  withValue f s (fun m t => t.setA (t.a ||| m))

/-- EOR in any form (44_bit_logic.md R173). -/
def xorA (f : Form) (s : State) : Result :=
  withValue f s (fun m t => t.setA (t.a ^^^ m))

/-- BIT ZP (44_bit_logic.md R170). -/
def execBitZp (z : Byte) (s : State) : Result :=
  bitTest (.zp z) s

/-- BIT ABS (44_bit_logic.md R170). -/
def execBitAbs (a : Word) (s : State) : Result :=
  bitTest (.abs a) s

/-- AND IMM (44_bit_logic.md R171). -/
def execAndImm (v : Byte) (s : State) : Result :=
  andA (.imm v) s

/-- AND ZP (44_bit_logic.md R171). -/
def execAndZp (z : Byte) (s : State) : Result :=
  andA (.zp z) s

/-- AND ZPX (44_bit_logic.md R171). -/
def execAndZpx (z : Byte) (s : State) : Result :=
  andA (.zpx z) s

/-- AND ABS (44_bit_logic.md R171). -/
def execAndAbs (a : Word) (s : State) : Result :=
  andA (.abs a) s

/-- AND ABSX (44_bit_logic.md R171). -/
def execAndAbsx (a : Word) (s : State) : Result :=
  andA (.absx a) s

/-- AND ABSY (44_bit_logic.md R171). -/
def execAndAbsy (a : Word) (s : State) : Result :=
  andA (.absy a) s

/-- AND INDX (44_bit_logic.md R171). -/
def execAndIndx (z : Byte) (s : State) : Result :=
  andA (.indx z) s

/-- AND INDY (44_bit_logic.md R171). -/
def execAndIndy (z : Byte) (s : State) : Result :=
  andA (.indy z) s

/-- ORA IMM (44_bit_logic.md R172). -/
def execOraImm (v : Byte) (s : State) : Result :=
  orA (.imm v) s

/-- ORA ZP (44_bit_logic.md R172). -/
def execOraZp (z : Byte) (s : State) : Result :=
  orA (.zp z) s

/-- ORA ZPX (44_bit_logic.md R172). -/
def execOraZpx (z : Byte) (s : State) : Result :=
  orA (.zpx z) s

/-- ORA ABS (44_bit_logic.md R172). -/
def execOraAbs (a : Word) (s : State) : Result :=
  orA (.abs a) s

/-- ORA ABSX (44_bit_logic.md R172). -/
def execOraAbsx (a : Word) (s : State) : Result :=
  orA (.absx a) s

/-- ORA ABSY (44_bit_logic.md R172). -/
def execOraAbsy (a : Word) (s : State) : Result :=
  orA (.absy a) s

/-- ORA INDX (44_bit_logic.md R172). -/
def execOraIndx (z : Byte) (s : State) : Result :=
  orA (.indx z) s

/-- ORA INDY (44_bit_logic.md R172). -/
def execOraIndy (z : Byte) (s : State) : Result :=
  orA (.indy z) s

/-- EOR IMM (44_bit_logic.md R173). -/
def execEorImm (v : Byte) (s : State) : Result :=
  xorA (.imm v) s

/-- EOR ZP (44_bit_logic.md R173). -/
def execEorZp (z : Byte) (s : State) : Result :=
  xorA (.zp z) s

/-- EOR ZPX (44_bit_logic.md R173). -/
def execEorZpx (z : Byte) (s : State) : Result :=
  xorA (.zpx z) s

/-- EOR ABS (44_bit_logic.md R173). -/
def execEorAbs (a : Word) (s : State) : Result :=
  xorA (.abs a) s

/-- EOR ABSX (44_bit_logic.md R173). -/
def execEorAbsx (a : Word) (s : State) : Result :=
  xorA (.absx a) s

/-- EOR ABSY (44_bit_logic.md R173). -/
def execEorAbsy (a : Word) (s : State) : Result :=
  xorA (.absy a) s

/-- EOR INDX (44_bit_logic.md R173). -/
def execEorIndx (z : Byte) (s : State) : Result :=
  xorA (.indx z) s

/-- EOR INDY (44_bit_logic.md R173). -/
def execEorIndy (z : Byte) (s : State) : Result :=
  xorA (.indy z) s

end Sys2Proof.Machine
end

