-- ==== Sys2Proof/Machine/ControlFlow.lean ====
section
/-! DEFINITION. Branches, jumps and subroutines (47_control_flow.md): the meaning of each. -/

namespace Sys2Proof.Machine

/-- `B<cond>`: the offset byte is consumed whether or not the branch is taken (47_control_flow.md R205). -/
def branchIf (taken : Bool) (off : Byte) (s : State) : Result :=
  .next (if taken then s.setPC (relTarget s off) else s.advance 2)

/-- BPL REL (47_control_flow.md R206). -/
def execBpl (off : Byte) (s : State) : Result :=
  branchIf (!s.flag .n) off s

/-- BMI REL (47_control_flow.md R207). -/
def execBmi (off : Byte) (s : State) : Result :=
  branchIf (s.flag .n) off s

/-- BVC REL (47_control_flow.md R208). -/
def execBvc (off : Byte) (s : State) : Result :=
  branchIf (!s.flag .v) off s

/-- BVS REL (47_control_flow.md R209). -/
def execBvs (off : Byte) (s : State) : Result :=
  branchIf (s.flag .v) off s

/-- BCC REL (47_control_flow.md R210). -/
def execBcc (off : Byte) (s : State) : Result :=
  branchIf (!s.flag .c) off s

/-- BCS REL (47_control_flow.md R211). -/
def execBcs (off : Byte) (s : State) : Result :=
  branchIf (s.flag .c) off s

/-- BNE REL (47_control_flow.md R212). -/
def execBne (off : Byte) (s : State) : Result :=
  branchIf (!s.flag .z) off s

/-- BEQ REL (47_control_flow.md R213). -/
def execBeq (off : Byte) (s : State) : Result :=
  branchIf (s.flag .z) off s

/-- JMP ABS (47_control_flow.md R214). -/
def execJmpAbs (a : Word) (s : State) : Result :=
  .next (s.setPC a)

/-- JMP IND (47_control_flow.md R215). -/
def execJmpInd (a : Word) (s : State) : Result :=
  .next (s.setPC (indTarget s a))

/-- JSR ABS (47_control_flow.md R216): pushes the address of its last byte, high byte first. -/
def execJsr (a : Word) (s : State) : Result :=
  let t := s.advance 3
  let r := t.pc - 1
  .next (((t.push (hiByte r)).push (loByte r)).setPC a)

/-- RTS (47_control_flow.md R217): the pulled address plus 1. -/
def execRts (s : State) : Result :=
  let t := s.dropTop
  .next (t.dropTop.setPC (wordOf s.pulled t.pulled + 1))

end Sys2Proof.Machine
end

