-- ==== Sys2Proof/Machine/FlagNop.lean ====
section
/-! DEFINITION. Single-flag instructions and NOP (48_flag_nop.md): the meaning of each. -/

namespace Sys2Proof.Machine

/-- A single-flag instruction: one bit of P, PC past the opcode (48_flag_nop.md). -/
def putOneFlag (f : Flag) (e : Bool) (s : State) : Result :=
  .next ((s.advance 1).setFlag f e)

/-- CLC (48_flag_nop.md R225). -/
def execClc (s : State) : Result :=
  putOneFlag .c false s

/-- SEC (48_flag_nop.md R226). -/
def execSec (s : State) : Result :=
  putOneFlag .c true s

/-- CLI (48_flag_nop.md R227). -/
def execCli (s : State) : Result :=
  putOneFlag .i false s

/-- SEI (48_flag_nop.md R228). -/
def execSei (s : State) : Result :=
  putOneFlag .i true s

/-- CLV (48_flag_nop.md R229). -/
def execClv (s : State) : Result :=
  putOneFlag .v false s

/-- CLD (48_flag_nop.md R230). -/
def execCld (s : State) : Result :=
  putOneFlag .d false s

/-- SED (48_flag_nop.md R231). -/
def execSed (s : State) : Result :=
  putOneFlag .d true s

/-- NOP (48_flag_nop.md R232). -/
def execNop (s : State) : Result :=
  .next (s.advance 1)

end Sys2Proof.Machine
end

