-- ==== Sys2Proof/Machine/IncDec.lean ====
section
/-! DEFINITION. Increments and decrements (45_incdec.md): the meaning of each. -/

namespace Sys2Proof.Machine

/-- INC in any form: no flag (45_incdec.md R180). -/
def incrementMem (f : Form) (s : State) : Result :=
  withAddress f s (fun ea t => t.writeByte ea (t.readByte ea + 1))

/-- DEC in any form: no flag (45_incdec.md R181). -/
def decrementMem (f : Form) (s : State) : Result :=
  withAddress f s (fun ea t => t.writeByte ea (t.readByte ea - 1))

/-- INC ZP (45_incdec.md R180). -/
def execIncZp (z : Byte) (s : State) : Result :=
  incrementMem (.zp z) s

/-- INC ZPX (45_incdec.md R180). -/
def execIncZpx (z : Byte) (s : State) : Result :=
  incrementMem (.zpx z) s

/-- INC ABS (45_incdec.md R180). -/
def execIncAbs (a : Word) (s : State) : Result :=
  incrementMem (.abs a) s

/-- INC ABSX (45_incdec.md R180). -/
def execIncAbsx (a : Word) (s : State) : Result :=
  incrementMem (.absx a) s

/-- DEC ZP (45_incdec.md R181). -/
def execDecZp (z : Byte) (s : State) : Result :=
  decrementMem (.zp z) s

/-- DEC ZPX (45_incdec.md R181). -/
def execDecZpx (z : Byte) (s : State) : Result :=
  decrementMem (.zpx z) s

/-- DEC ABS (45_incdec.md R181). -/
def execDecAbs (a : Word) (s : State) : Result :=
  decrementMem (.abs a) s

/-- DEC ABSX (45_incdec.md R181). -/
def execDecAbsx (a : Word) (s : State) : Result :=
  decrementMem (.absx a) s

/-- INX (45_incdec.md R182). -/
def execInx (s : State) : Result :=
  .next ((s.advance 1).setX (s.x + 1))

/-- INY (45_incdec.md R183). -/
def execIny (s : State) : Result :=
  .next ((s.advance 1).setY (s.y + 1))

/-- DEX (45_incdec.md R184). -/
def execDex (s : State) : Result :=
  .next ((s.advance 1).setX (s.x - 1))

/-- DEY (45_incdec.md R185). -/
def execDey (s : State) : Result :=
  .next ((s.advance 1).setY (s.y - 1))

end Sys2Proof.Machine
end

