-- ==== Sys2Proof/Machine/LoadStore.lean ====
section
/-! DEFINITION. Loads and stores (41_load_store.md): the meaning of each. -/

namespace Sys2Proof.Machine

/-- LDA in any form (41_load_store.md R140). -/
def loadA (f : Form) (s : State) : Result :=
  withValue f s (fun v t => t.setA v)

/-- LDX in any form (41_load_store.md R141). -/
def loadX (f : Form) (s : State) : Result :=
  withValue f s (fun v t => t.setX v)

/-- LDY in any form (41_load_store.md R142). -/
def loadY (f : Form) (s : State) : Result :=
  withValue f s (fun v t => t.setY v)

/-- STA in any form (41_load_store.md R143). -/
def storeA (f : Form) (s : State) : Result :=
  withAddress f s (fun ea t => t.writeByte ea t.a)

/-- STX in any form (41_load_store.md R144). -/
def storeX (f : Form) (s : State) : Result :=
  withAddress f s (fun ea t => t.writeByte ea t.x)

/-- STY in any form (41_load_store.md R145). -/
def storeY (f : Form) (s : State) : Result :=
  withAddress f s (fun ea t => t.writeByte ea t.y)

/-- LDA IMM (41_load_store.md R140). -/
def execLdaImm (v : Byte) (s : State) : Result :=
  loadA (.imm v) s

/-- LDA ZP (41_load_store.md R140). -/
def execLdaZp (z : Byte) (s : State) : Result :=
  loadA (.zp z) s

/-- LDA ZPX (41_load_store.md R140). -/
def execLdaZpx (z : Byte) (s : State) : Result :=
  loadA (.zpx z) s

/-- LDA ABS (41_load_store.md R140). -/
def execLdaAbs (a : Word) (s : State) : Result :=
  loadA (.abs a) s

/-- LDA ABSX (41_load_store.md R140). -/
def execLdaAbsx (a : Word) (s : State) : Result :=
  loadA (.absx a) s

/-- LDA ABSY (41_load_store.md R140). -/
def execLdaAbsy (a : Word) (s : State) : Result :=
  loadA (.absy a) s

/-- LDA INDX (41_load_store.md R140). -/
def execLdaIndx (z : Byte) (s : State) : Result :=
  loadA (.indx z) s

/-- LDA INDY (41_load_store.md R140). -/
def execLdaIndy (z : Byte) (s : State) : Result :=
  loadA (.indy z) s

/-- LDX IMM (41_load_store.md R141). -/
def execLdxImm (v : Byte) (s : State) : Result :=
  loadX (.imm v) s

/-- LDX ZP (41_load_store.md R141). -/
def execLdxZp (z : Byte) (s : State) : Result :=
  loadX (.zp z) s

/-- LDX ZPY (41_load_store.md R141). -/
def execLdxZpy (z : Byte) (s : State) : Result :=
  loadX (.zpy z) s

/-- LDX ABS (41_load_store.md R141). -/
def execLdxAbs (a : Word) (s : State) : Result :=
  loadX (.abs a) s

/-- LDX ABSY (41_load_store.md R141). -/
def execLdxAbsy (a : Word) (s : State) : Result :=
  loadX (.absy a) s

/-- LDY IMM (41_load_store.md R142). -/
def execLdyImm (v : Byte) (s : State) : Result :=
  loadY (.imm v) s

/-- LDY ZP (41_load_store.md R142). -/
def execLdyZp (z : Byte) (s : State) : Result :=
  loadY (.zp z) s

/-- LDY ZPX (41_load_store.md R142). -/
def execLdyZpx (z : Byte) (s : State) : Result :=
  loadY (.zpx z) s

/-- LDY ABS (41_load_store.md R142). -/
def execLdyAbs (a : Word) (s : State) : Result :=
  loadY (.abs a) s

/-- LDY ABSX (41_load_store.md R142). -/
def execLdyAbsx (a : Word) (s : State) : Result :=
  loadY (.absx a) s

/-- STA ZP (41_load_store.md R143). -/
def execStaZp (z : Byte) (s : State) : Result :=
  storeA (.zp z) s

/-- STA ZPX (41_load_store.md R143). -/
def execStaZpx (z : Byte) (s : State) : Result :=
  storeA (.zpx z) s

/-- STA ABS (41_load_store.md R143). -/
def execStaAbs (a : Word) (s : State) : Result :=
  storeA (.abs a) s

/-- STA ABSX (41_load_store.md R143). -/
def execStaAbsx (a : Word) (s : State) : Result :=
  storeA (.absx a) s

/-- STA ABSY (41_load_store.md R143). -/
def execStaAbsy (a : Word) (s : State) : Result :=
  storeA (.absy a) s

/-- STA INDX (41_load_store.md R143). -/
def execStaIndx (z : Byte) (s : State) : Result :=
  storeA (.indx z) s

/-- STA INDY (41_load_store.md R143). -/
def execStaIndy (z : Byte) (s : State) : Result :=
  storeA (.indy z) s

/-- STX ZP (41_load_store.md R144). -/
def execStxZp (z : Byte) (s : State) : Result :=
  storeX (.zp z) s

/-- STX ZPY (41_load_store.md R144). -/
def execStxZpy (z : Byte) (s : State) : Result :=
  storeX (.zpy z) s

/-- STX ABS (41_load_store.md R144). -/
def execStxAbs (a : Word) (s : State) : Result :=
  storeX (.abs a) s

/-- STY ZP (41_load_store.md R145). -/
def execStyZp (z : Byte) (s : State) : Result :=
  storeY (.zp z) s

/-- STY ZPX (41_load_store.md R145). -/
def execStyZpx (z : Byte) (s : State) : Result :=
  storeY (.zpx z) s

/-- STY ABS (41_load_store.md R145). -/
def execStyAbs (a : Word) (s : State) : Result :=
  storeY (.abs a) s

end Sys2Proof.Machine
end

