-- ==== Sys2Proof/Machine/ShiftRotate.lean ====
section
/-! DEFINITION. Shifts and rotates (43_shift_rotate.md): the meaning of each. -/

namespace Sys2Proof.Machine

/-- The ACC form of a shift or rotate: Carry, then `SetA` (43_shift_rotate.md R164). -/
def shiftAcc (op : Byte → Shifted) (s : State) : Result :=
  let t := s.advance 1
  .next ((t.setFlag .c (op t.a).carry).setA (op t.a).byte)

/-- A memory form of a shift or rotate: one read, one write, and of the flags Carry only (43_shift_rotate.md R164). -/
def shiftMem (op : Byte → Shifted) (f : Form) (s : State) : Result :=
  withAddress f s (fun ea t =>
    (t.setFlag .c (op (t.readByte ea)).carry).writeByte ea (op (t.readByte ea)).byte)

/-- ASL ACC (43_shift_rotate.md R160). -/
def execAslAcc (s : State) : Result :=
  shiftAcc aslOp s

/-- ASL ZP (43_shift_rotate.md R160). -/
def execAslZp (z : Byte) (s : State) : Result :=
  shiftMem aslOp (.zp z) s

/-- ASL ZPX (43_shift_rotate.md R160). -/
def execAslZpx (z : Byte) (s : State) : Result :=
  shiftMem aslOp (.zpx z) s

/-- ASL ABS (43_shift_rotate.md R160). -/
def execAslAbs (a : Word) (s : State) : Result :=
  shiftMem aslOp (.abs a) s

/-- ASL ABSX (43_shift_rotate.md R160). -/
def execAslAbsx (a : Word) (s : State) : Result :=
  shiftMem aslOp (.absx a) s

/-- LSR ACC (43_shift_rotate.md R161). -/
def execLsrAcc (s : State) : Result :=
  shiftAcc lsrOp s

/-- LSR ZP (43_shift_rotate.md R161). -/
def execLsrZp (z : Byte) (s : State) : Result :=
  shiftMem lsrOp (.zp z) s

/-- LSR ZPX (43_shift_rotate.md R161). -/
def execLsrZpx (z : Byte) (s : State) : Result :=
  shiftMem lsrOp (.zpx z) s

/-- LSR ABS (43_shift_rotate.md R161). -/
def execLsrAbs (a : Word) (s : State) : Result :=
  shiftMem lsrOp (.abs a) s

/-- LSR ABSX (43_shift_rotate.md R161). -/
def execLsrAbsx (a : Word) (s : State) : Result :=
  shiftMem lsrOp (.absx a) s

/-- ROL ACC (43_shift_rotate.md R162). -/
def execRolAcc (s : State) : Result :=
  shiftAcc rolOp s

/-- ROL ZP (43_shift_rotate.md R162). -/
def execRolZp (z : Byte) (s : State) : Result :=
  shiftMem rolOp (.zp z) s

/-- ROL ZPX (43_shift_rotate.md R162). -/
def execRolZpx (z : Byte) (s : State) : Result :=
  shiftMem rolOp (.zpx z) s

/-- ROL ABS (43_shift_rotate.md R162). -/
def execRolAbs (a : Word) (s : State) : Result :=
  shiftMem rolOp (.abs a) s

/-- ROL ABSX (43_shift_rotate.md R162). -/
def execRolAbsx (a : Word) (s : State) : Result :=
  shiftMem rolOp (.absx a) s

/-- ROR ACC (43_shift_rotate.md R163). -/
def execRorAcc (s : State) : Result :=
  shiftAcc rorOp s

/-- ROR ZP (43_shift_rotate.md R163). -/
def execRorZp (z : Byte) (s : State) : Result :=
  shiftMem rorOp (.zp z) s

/-- ROR ZPX (43_shift_rotate.md R163). -/
def execRorZpx (z : Byte) (s : State) : Result :=
  shiftMem rorOp (.zpx z) s

/-- ROR ABS (43_shift_rotate.md R163). -/
def execRorAbs (a : Word) (s : State) : Result :=
  shiftMem rorOp (.abs a) s

/-- ROR ABSX (43_shift_rotate.md R163). -/
def execRorAbsx (a : Word) (s : State) : Result :=
  shiftMem rorOp (.absx a) s

end Sys2Proof.Machine
end

