-- ==== Sys2Proof/Machine/SystemCustom.lean ====
section
/-! DEFINITION. System and custom instructions (49_system_custom.md): the meaning of each. -/

namespace Sys2Proof.Machine

/-- BRK (49_system_custom.md R235): fatal, pushes nothing. -/
def execBrk (s : State) : Result :=
  .next (s.raiseFatal (.brk s.pc))

/-- ERR (49_system_custom.md R236): fatal. -/
def execErr (s : State) : Result :=
  .next (s.raiseFatal (.softwareError s.pc))

/-- RTI (49_system_custom.md R237). -/
def execRti (s : State) : Result :=
  .next s.returnFromInterrupt

/-- CBL ABSLEN (49_system_custom.md R238): memory to cache. -/
def execCbl (a : Word) (len : Byte) (s : State) : Result :=
  let t := s.advance 4
  blockCopy a t.cfg.cacheStart len.toNat t

/-- CBS ABSLEN (49_system_custom.md R239): cache to memory. -/
def execCbs (a : Word) (len : Byte) (s : State) : Result :=
  let t := s.advance 4
  blockCopy t.cfg.cacheStart a len.toNat t

end Sys2Proof.Machine
end

