-- ==== Sys2Proof/Machine/TransferStack.lean ====
section
/-! DEFINITION. Register transfers and the stack (46_transfer_stack.md): the meaning of each. -/

namespace Sys2Proof.Machine

/-- TAX (46_transfer_stack.md R190). -/
def execTax (s : State) : Result :=
  .next ((s.advance 1).setX s.a)

/-- TAY (46_transfer_stack.md R191). -/
def execTay (s : State) : Result :=
  .next ((s.advance 1).setY s.a)

/-- TXA (46_transfer_stack.md R192). -/
def execTxa (s : State) : Result :=
  .next ((s.advance 1).setA s.x)

/-- TYA (46_transfer_stack.md R193). -/
def execTya (s : State) : Result :=
  .next ((s.advance 1).setA s.y)

/-- TSX (46_transfer_stack.md R194). -/
def execTsx (s : State) : Result :=
  .next ((s.advance 1).setX s.sp)

/-- TXS (46_transfer_stack.md R195). -/
def execTxs (s : State) : Result :=
  .next ((s.advance 1).setSP s.x)

/-- PHA (46_transfer_stack.md R196). -/
def execPha (s : State) : Result :=
  .next ((s.advance 1).push s.a)

/-- PLA (46_transfer_stack.md R197). -/
def execPla (s : State) : Result :=
  .next ((s.advance 1).dropTop.setA s.pulled)

/-- PHP (46_transfer_stack.md R198). -/
def execPhp (s : State) : Result :=
  .next ((s.advance 1).push s.p)

/-- PLP (46_transfer_stack.md R199). -/
def execPlp (s : State) : Result :=
  .next ((s.advance 1).dropTop.setP s.pulled)

end Sys2Proof.Machine
end

