-- ==== Sys2Proof/Machine/Controller.lean ====
section
/-! DEFINITION. The instruction cycle (30_encoding.md R92), the spec's `Step` (60_exceptions.md R260), and one action of the
execution controller (60_exceptions.md R259, R267, R273), which `step` runs. -/

namespace Sys2Proof.Machine

/-- The four bytes from PC on, wrapping (30_encoding.md R90, 10_state.md R27): as many as the longest instruction has. -/
def State.fetchBytes (s : State) : List Byte := s.readBlock s.pc 4

/-- `ExecuteOne()` (30_encoding.md R92): an opcode byte with no entry raises UnknownOpcode (R95). -/
def executeOne (s : State) : Result :=
  match decode s.cfg s.fetchBytes with
  | .ok (i, _) => exec i s
  | .error _ => .next (s.raiseFatal (.unknownOpcode s.pc (s.readByte s.pc)))

/-- The core is Halted. -/
def State.isHalted (s : State) : Bool :=
  match s.run with
  | .halted _ => true
  | .idle => false
  | .running => false
  | .servicing => false
  | .suspended => false

/-- What the spec's `Step()` returns; a raise does not return (60_exceptions.md R260). -/
inductive StepReport where
  | executed
  | noInstruction
  | raised
  deriving DecidableEq, Repr

/-- The annotations of a step: emitted unless the machine just resumed (60_exceptions.md R260, R261). -/
def State.consultDebug (s : State) : State := if s.justResumed then s else s.emitAt s.pc

/-- The suspend table flags this boundary (60_exceptions.md R260, R262, R263). -/
def State.suspendHere (s : State) : Bool := !s.justResumed && Config.suspendAt s.cfg s.pc

/-- `Step()` (60_exceptions.md R260): debug table, suspend table, at most one instruction. A step that suspends leaves
`run` to its caller, which parks an interval (R262) and refuses in the service loop (R272). -/
def instructionStep (s : State) : Host.Outcome (State × StepReport) Fault Refusal :=
  if s.suspendHere then .next (s.consultDebug, .noInstruction)
  else
    match executeOne s.consultDebug with
    | .next t => if t.isHalted then .next (t, .raised) else .next ({ t with justResumed := false }, .executed)
    | .fault e => .fault e
    | .refused r => .refused r

/-- One step of an interval that has run `k` steps (60_exceptions.md R273). -/
def intervalStep (k : Nat) (s : State) : Result :=
  match instructionStep s with
  | .next (t, .executed) => .next { t with intervalSteps := some (k + 1) }
  | .next (t, .noInstruction) => .next t.park
  | .next (t, .raised) => .next t
  | .fault e => .fault e
  | .refused r => .refused r

/-- One step of the service loop (60_exceptions.md R267); a suspend point has no meaning there (R272). -/
def serviceStep (s : State) : Result :=
  match instructionStep s with
  | .next (t, .executed) => .next { t with serviceSteps := t.serviceSteps + 1 }
  | .next (_, .noInstruction) => .refused .suspendWhileServicing
  | .next (t, .raised) => .next t
  | .fault e => .fault e
  | .refused r => .refused r

/-- One action of the controller when it takes no input (60_exceptions.md R259). Idle and Suspended wait for the host. -/
def controllerAction (s : State) : Result :=
  match s.run with
  | .idle => .next s
  | .suspended => .next s
  | .halted r => .fault (.halted r)
  | .running =>
    match s.intervalSteps with
    | none => .next s.startInterval
    | some k => if k < s.cfg.stepQuota then intervalStep k s else .next s.endInterval
  | .servicing =>
    if s.inProgress then
      if s.serviceSteps < s.cfg.intStepBudget then serviceStep s else .next (s.halt .runawayInterrupt)
    else .next s.endService

/-- One step of the machine: the input at the head of the inbox when it may be taken, else one action of the controller. -/
def controllerStep (s : State) : Result :=
  match s.inbox with
  | [] => controllerAction s
  | i :: rest => if s.mayTake i then .next ({ s with inbox := rest }.takeInput i) else controllerAction s

/-! ## Placing an instruction where the next step fetches (log entry 7) -/

/-- `w`'s low byte is the opcode of a COMPAT row. -/
def needsCompat (c : Config) (op : Byte) : Bool := (dispatch c op).isNone && (dispatch { c with compatExt := true } op).isSome

/-- The parameters an instruction with opcode `op` at `pc` needs to run: the COMPAT tier for a COMPAT row, a quota that is
not empty. -/
def fetchConfig (c : Config) (op : Byte) : Config :=
  { c with compatExt := c.compatExt || needsCompat c op, stepQuota := max 1 c.stepQuota }

/-- Inputs that would be taken before the instruction. -/
def Input.preempts : Input → Bool
  | .reset => true
  | .key _ => true
  | .go => false
  | .suspend => false
  | .resume => false
  | .drive => false

/-- A machine whose very next step fetches the given bytes at PC: the bytes stored there, an interval under way. -/
def State.placeAtFetch (s : State) (bytes : List Byte) : State :=
  { s.writeBlock s.pc bytes with
    run := .running
    intervalSteps := some 0
    justResumed := s.justResumed || Config.suspendAt s.cfg s.pc
    inbox := s.inbox.dropWhile Input.preempts
    cfg := fetchConfig s.cfg (bytes.headD 0) }

end Sys2Proof.Machine
end

