-- ==== Sys2Proof/Machine/Step.lean ====
section
/-! DEFINITION. The step of the machine, and the placing of an instruction where it fetches. -/

namespace Sys2Proof.Machine

/-- One step (60_exceptions.md R259, R260, R267, R273; log entry 10). -/
def step (s : State) : Host.Outcome State Fault Refusal := controllerStep s

/-- `s` with the instruction of a table word stored where the next step fetches (log entry 7). -/
def State.withFetchWord (s : State) (nbits w : Nat) : State := s.placeAtFetch (tableBytes nbits w)

end Sys2Proof.Machine
end

