-- ==== Sys2Proof/Safety.lean ====
section
/-! DEFINITION. The terms claims are stated in: the invariant of every state a run meets, how a run may end, and the
moves of the run state. -/

namespace Sys2Proof.Machine

/-- The run state is Servicing or Halted. -/
def RunState.servicingOrHalted : RunState → Bool
  | .servicing => true
  | .halted _ => true
  | .idle => false
  | .running => false
  | .suspended => false

/-- The run state is Running or Halted. -/
def RunState.runningOrHalted : RunState → Bool
  | .running => true
  | .halted _ => true
  | .idle => false
  | .servicing => false
  | .suspended => false

/-- The run state is Halted. -/
def RunState.isHalted : RunState → Bool
  | .halted _ => true
  | .idle => false
  | .running => false
  | .servicing => false
  | .suspended => false

/-- What holds of the machine at reset and after every step: memory in its canonical form, parameters within the spec's
constraints, the loop counters within quota, budget and limit (10_state.md R44, 60_exceptions.md R267, R273, R274), and
the mark and the counters only in the run states that use them (60_exceptions.md R259, R266, R270). -/
structure State.Inv (s : State) : Prop where
  /-- memory is in canonical form -/
  memWf : Memory.wf s.mem = true
  /-- the parameters meet the spec's constraints -/
  cfgWf : s.cfg.wf = true
  /-- the steps of the interval under way stay within `STEP_QUOTA` -/
  quota : ∀ k, s.intervalSteps = some k → k ≤ s.cfg.stepQuota
  /-- the steps of the service loop stay within `INT_STEP_BUDGET` -/
  budget : s.serviceSteps ≤ s.cfg.intStepBudget
  /-- no more intervals than `MAX_INTERVALS` -/
  limit : s.intervalCount ≤ s.cfg.maxIntervals
  /-- an interrupt is in progress only in the service loop, or where a fatal event ended it -/
  marked : s.inProgress = true → s.run.servicingOrHalted = true
  /-- an interval is under way only while Running, or where a fatal event ended it -/
  underWay : s.intervalSteps.isSome = true → s.run.runningOrHalted = true

/-- A Halted state is a successful end of a run only for IntervalLimit (60_exceptions.md R251). -/
def HaltReason.graceful : HaltReason → Bool
  | .intervalLimit => true
  | .unknownOpcode _ _ => false
  | .brk _ => false
  | .softwareError _ => false
  | .runawayInterrupt => false

/-- A state that no fatal event has ended. -/
def State.safe (s : State) : Bool :=
  match s.run with
  | .halted r => r.graceful
  | .idle => true
  | .running => true
  | .servicing => true
  | .suspended => true

/-- The machine is parked or has ended: Suspended or Halted (60_exceptions.md R273). -/
def State.parkedOrEnded (s : State) : Bool :=
  match s.run with
  | .suspended => true
  | .halted _ => true
  | .idle => false
  | .running => false
  | .servicing => false

/-- Reachable from a state by steps. -/
inductive Reachable (s0 : State) : State → Prop where
  | start : Reachable s0 s0
  | next {s t : State} : Reachable s0 s → step s = .next t → Reachable s0 t

end Sys2Proof.Machine
end

