-- ==== Sys2Proof/Certificates/Slice0/Obligations.lean ====
section
/-! DEFINITION. The statements for the provers. The helpers in namespace Sys2Proof.Claim come first: which form of a
mnemonic is which instruction with which opcode byte, and the words the statements share. -/

namespace Sys2Proof.Claim

open Sys2Proof.Machine

/-! ## The forms of each mnemonic, with opcode byte and instruction (30_encoding.md R98) -/

/-- The forms of LDA. -/
def ldaForms : Form → Option (Byte × Instr)
  | .imm v => some (0xA9, .ldaImm v)
  | .zp z => some (0xA5, .ldaZp z)
  | .zpx z => some (0xB5, .ldaZpx z)
  | .zpy _ => none
  | .abs a => some (0xAD, .ldaAbs a)
  | .absx a => some (0xBD, .ldaAbsx a)
  | .absy a => some (0xB9, .ldaAbsy a)
  | .indx z => some (0xA1, .ldaIndx z)
  | .indy z => some (0xB1, .ldaIndy z)

/-- The forms of LDX. -/
def ldxForms : Form → Option (Byte × Instr)
  | .imm v => some (0xA2, .ldxImm v)
  | .zp z => some (0xA6, .ldxZp z)
  | .zpx _ => none
  | .zpy z => some (0xB6, .ldxZpy z)
  | .abs a => some (0xAE, .ldxAbs a)
  | .absx _ => none
  | .absy a => some (0xBE, .ldxAbsy a)
  | .indx _ => none
  | .indy _ => none

/-- The forms of LDY. -/
def ldyForms : Form → Option (Byte × Instr)
  | .imm v => some (0xA0, .ldyImm v)
  | .zp z => some (0xA4, .ldyZp z)
  | .zpx z => some (0xB4, .ldyZpx z)
  | .zpy _ => none
  | .abs a => some (0xAC, .ldyAbs a)
  | .absx a => some (0xBC, .ldyAbsx a)
  | .absy _ => none
  | .indx _ => none
  | .indy _ => none

/-- The forms of STA. -/
def staForms : Form → Option (Byte × Instr)
  | .imm _ => none
  | .zp z => some (0x85, .staZp z)
  | .zpx z => some (0x95, .staZpx z)
  | .zpy _ => none
  | .abs a => some (0x8D, .staAbs a)
  | .absx a => some (0x9D, .staAbsx a)
  | .absy a => some (0x99, .staAbsy a)
  | .indx z => some (0x81, .staIndx z)
  | .indy z => some (0x91, .staIndy z)

/-- The forms of STX. -/
def stxForms : Form → Option (Byte × Instr)
  | .imm _ => none
  | .zp z => some (0x86, .stxZp z)
  | .zpx _ => none
  | .zpy z => some (0x96, .stxZpy z)
  | .abs a => some (0x8E, .stxAbs a)
  | .absx _ => none
  | .absy _ => none
  | .indx _ => none
  | .indy _ => none

/-- The forms of STY. -/
def styForms : Form → Option (Byte × Instr)
  | .imm _ => none
  | .zp z => some (0x84, .styZp z)
  | .zpx z => some (0x94, .styZpx z)
  | .zpy _ => none
  | .abs a => some (0x8C, .styAbs a)
  | .absx _ => none
  | .absy _ => none
  | .indx _ => none
  | .indy _ => none

/-- The forms of CMP. -/
def cmpForms : Form → Option (Byte × Instr)
  | .imm v => some (0xC9, .cmpImm v)
  | .zp z => some (0xC5, .cmpZp z)
  | .zpx z => some (0xD5, .cmpZpx z)
  | .zpy _ => none
  | .abs a => some (0xCD, .cmpAbs a)
  | .absx a => some (0xDD, .cmpAbsx a)
  | .absy a => some (0xD9, .cmpAbsy a)
  | .indx z => some (0xC1, .cmpIndx z)
  | .indy z => some (0xD1, .cmpIndy z)

/-- The forms of CPX. -/
def cpxForms : Form → Option (Byte × Instr)
  | .imm v => some (0xE0, .cpxImm v)
  | .zp z => some (0xE4, .cpxZp z)
  | .zpx _ => none
  | .zpy _ => none
  | .abs a => some (0xEC, .cpxAbs a)
  | .absx _ => none
  | .absy _ => none
  | .indx _ => none
  | .indy _ => none

/-- The forms of CPY. -/
def cpyForms : Form → Option (Byte × Instr)
  | .imm v => some (0xC0, .cpyImm v)
  | .zp z => some (0xC4, .cpyZp z)
  | .zpx _ => none
  | .zpy _ => none
  | .abs a => some (0xCC, .cpyAbs a)
  | .absx _ => none
  | .absy _ => none
  | .indx _ => none
  | .indy _ => none

/-- The forms of ADC. -/
def adcForms : Form → Option (Byte × Instr)
  | .imm v => some (0x69, .adcImm v)
  | .zp z => some (0x65, .adcZp z)
  | .zpx z => some (0x75, .adcZpx z)
  | .zpy _ => none
  | .abs a => some (0x6D, .adcAbs a)
  | .absx a => some (0x7D, .adcAbsx a)
  | .absy a => some (0x79, .adcAbsy a)
  | .indx z => some (0x61, .adcIndx z)
  | .indy z => some (0x71, .adcIndy z)

/-- The forms of SBC. -/
def sbcForms : Form → Option (Byte × Instr)
  | .imm v => some (0xE9, .sbcImm v)
  | .zp z => some (0xE5, .sbcZp z)
  | .zpx z => some (0xF5, .sbcZpx z)
  | .zpy _ => none
  | .abs a => some (0xED, .sbcAbs a)
  | .absx a => some (0xFD, .sbcAbsx a)
  | .absy a => some (0xF9, .sbcAbsy a)
  | .indx z => some (0xE1, .sbcIndx z)
  | .indy z => some (0xF1, .sbcIndy z)

/-- The forms of ASL in memory. -/
def aslForms : Form → Option (Byte × Instr)
  | .imm _ => none
  | .zp z => some (0x06, .aslZp z)
  | .zpx z => some (0x16, .aslZpx z)
  | .zpy _ => none
  | .abs a => some (0x0E, .aslAbs a)
  | .absx a => some (0x1E, .aslAbsx a)
  | .absy _ => none
  | .indx _ => none
  | .indy _ => none

/-- The forms of LSR in memory. -/
def lsrForms : Form → Option (Byte × Instr)
  | .imm _ => none
  | .zp z => some (0x46, .lsrZp z)
  | .zpx z => some (0x56, .lsrZpx z)
  | .zpy _ => none
  | .abs a => some (0x4E, .lsrAbs a)
  | .absx a => some (0x5E, .lsrAbsx a)
  | .absy _ => none
  | .indx _ => none
  | .indy _ => none

/-- The forms of ROL in memory. -/
def rolForms : Form → Option (Byte × Instr)
  | .imm _ => none
  | .zp z => some (0x26, .rolZp z)
  | .zpx z => some (0x36, .rolZpx z)
  | .zpy _ => none
  | .abs a => some (0x2E, .rolAbs a)
  | .absx a => some (0x3E, .rolAbsx a)
  | .absy _ => none
  | .indx _ => none
  | .indy _ => none

/-- The forms of ROR in memory. -/
def rorForms : Form → Option (Byte × Instr)
  | .imm _ => none
  | .zp z => some (0x66, .rorZp z)
  | .zpx z => some (0x76, .rorZpx z)
  | .zpy _ => none
  | .abs a => some (0x6E, .rorAbs a)
  | .absx a => some (0x7E, .rorAbsx a)
  | .absy _ => none
  | .indx _ => none
  | .indy _ => none

/-- The forms of BIT. -/
def bitForms : Form → Option (Byte × Instr)
  | .imm _ => none
  | .zp z => some (0x24, .bitZp z)
  | .zpx _ => none
  | .zpy _ => none
  | .abs a => some (0x2C, .bitAbs a)
  | .absx _ => none
  | .absy _ => none
  | .indx _ => none
  | .indy _ => none

/-- The forms of AND. -/
def andForms : Form → Option (Byte × Instr)
  | .imm v => some (0x29, .andImm v)
  | .zp z => some (0x25, .andZp z)
  | .zpx z => some (0x35, .andZpx z)
  | .zpy _ => none
  | .abs a => some (0x2D, .andAbs a)
  | .absx a => some (0x3D, .andAbsx a)
  | .absy a => some (0x39, .andAbsy a)
  | .indx z => some (0x21, .andIndx z)
  | .indy z => some (0x31, .andIndy z)

/-- The forms of ORA. -/
def oraForms : Form → Option (Byte × Instr)
  | .imm v => some (0x09, .oraImm v)
  | .zp z => some (0x05, .oraZp z)
  | .zpx z => some (0x15, .oraZpx z)
  | .zpy _ => none
  | .abs a => some (0x0D, .oraAbs a)
  | .absx a => some (0x1D, .oraAbsx a)
  | .absy a => some (0x19, .oraAbsy a)
  | .indx z => some (0x01, .oraIndx z)
  | .indy z => some (0x11, .oraIndy z)

/-- The forms of EOR. -/
def eorForms : Form → Option (Byte × Instr)
  | .imm v => some (0x49, .eorImm v)
  | .zp z => some (0x45, .eorZp z)
  | .zpx z => some (0x55, .eorZpx z)
  | .zpy _ => none
  | .abs a => some (0x4D, .eorAbs a)
  | .absx a => some (0x5D, .eorAbsx a)
  | .absy a => some (0x59, .eorAbsy a)
  | .indx z => some (0x41, .eorIndx z)
  | .indy z => some (0x51, .eorIndy z)

/-- The forms of INC. -/
def incForms : Form → Option (Byte × Instr)
  | .imm _ => none
  | .zp z => some (0xE6, .incZp z)
  | .zpx z => some (0xF6, .incZpx z)
  | .zpy _ => none
  | .abs a => some (0xEE, .incAbs a)
  | .absx a => some (0xFE, .incAbsx a)
  | .absy _ => none
  | .indx _ => none
  | .indy _ => none

/-- The forms of DEC. -/
def decForms : Form → Option (Byte × Instr)
  | .imm _ => none
  | .zp z => some (0xC6, .decZp z)
  | .zpx z => some (0xD6, .decZpx z)
  | .zpy _ => none
  | .abs a => some (0xCE, .decAbs a)
  | .absx a => some (0xDE, .decAbsx a)
  | .absy _ => none
  | .indx _ => none
  | .indy _ => none

/-- The instructions that write `A` (10_state.md R21). -/
def writesA : Instr → Bool
  | .ldaImm _ => true
  | .ldaZp _ => true
  | .ldaZpx _ => true
  | .ldaAbs _ => true
  | .ldaAbsx _ => true
  | .ldaAbsy _ => true
  | .ldaIndx _ => true
  | .ldaIndy _ => true
  | .ldxImm _ => false
  | .ldxZp _ => false
  | .ldxZpy _ => false
  | .ldxAbs _ => false
  | .ldxAbsy _ => false
  | .ldyImm _ => false
  | .ldyZp _ => false
  | .ldyZpx _ => false
  | .ldyAbs _ => false
  | .ldyAbsx _ => false
  | .staZp _ => false
  | .staZpx _ => false
  | .staAbs _ => false
  | .staAbsx _ => false
  | .staAbsy _ => false
  | .staIndx _ => false
  | .staIndy _ => false
  | .stxZp _ => false
  | .stxZpy _ => false
  | .stxAbs _ => false
  | .styZp _ => false
  | .styZpx _ => false
  | .styAbs _ => false
  | .cmpImm _ => false
  | .cmpZp _ => false
  | .cmpZpx _ => false
  | .cmpAbs _ => false
  | .cmpAbsx _ => false
  | .cmpAbsy _ => false
  | .cmpIndx _ => false
  | .cmpIndy _ => false
  | .cpxImm _ => false
  | .cpxZp _ => false
  | .cpxAbs _ => false
  | .cpyImm _ => false
  | .cpyZp _ => false
  | .cpyAbs _ => false
  | .adcImm _ => true
  | .adcZp _ => true
  | .adcZpx _ => true
  | .adcAbs _ => true
  | .adcAbsx _ => true
  | .adcAbsy _ => true
  | .adcIndx _ => true
  | .adcIndy _ => true
  | .sbcImm _ => true
  | .sbcZp _ => true
  | .sbcZpx _ => true
  | .sbcAbs _ => true
  | .sbcAbsx _ => true
  | .sbcAbsy _ => true
  | .sbcIndx _ => true
  | .sbcIndy _ => true
  | .aslAcc => true
  | .aslZp _ => false
  | .aslZpx _ => false
  | .aslAbs _ => false
  | .aslAbsx _ => false
  | .lsrAcc => true
  | .lsrZp _ => false
  | .lsrZpx _ => false
  | .lsrAbs _ => false
  | .lsrAbsx _ => false
  | .rolAcc => true
  | .rolZp _ => false
  | .rolZpx _ => false
  | .rolAbs _ => false
  | .rolAbsx _ => false
  | .rorAcc => true
  | .rorZp _ => false
  | .rorZpx _ => false
  | .rorAbs _ => false
  | .rorAbsx _ => false
  | .bitZp _ => false
  | .bitAbs _ => false
  | .andImm _ => true
  | .andZp _ => true
  | .andZpx _ => true
  | .andAbs _ => true
  | .andAbsx _ => true
  | .andAbsy _ => true
  | .andIndx _ => true
  | .andIndy _ => true
  | .oraImm _ => true
  | .oraZp _ => true
  | .oraZpx _ => true
  | .oraAbs _ => true
  | .oraAbsx _ => true
  | .oraAbsy _ => true
  | .oraIndx _ => true
  | .oraIndy _ => true
  | .eorImm _ => true
  | .eorZp _ => true
  | .eorZpx _ => true
  | .eorAbs _ => true
  | .eorAbsx _ => true
  | .eorAbsy _ => true
  | .eorIndx _ => true
  | .eorIndy _ => true
  | .incZp _ => false
  | .incZpx _ => false
  | .incAbs _ => false
  | .incAbsx _ => false
  | .decZp _ => false
  | .decZpx _ => false
  | .decAbs _ => false
  | .decAbsx _ => false
  | .inx => false
  | .iny => false
  | .dex => false
  | .dey => false
  | .tax => false
  | .tay => false
  | .txa => true
  | .tya => true
  | .tsx => false
  | .txs => false
  | .pha => false
  | .pla => true
  | .php => false
  | .plp => false
  | .bpl _ => false
  | .bmi _ => false
  | .bvc _ => false
  | .bvs _ => false
  | .bcc _ => false
  | .bcs _ => false
  | .bne _ => false
  | .beq _ => false
  | .jmpAbs _ => false
  | .jmpInd _ => false
  | .jsr _ => false
  | .rts => false
  | .clc => false
  | .sec => false
  | .cli => false
  | .sei => false
  | .clv => false
  | .cld => false
  | .sed => false
  | .nop => false
  | .brk => false
  | .err => false
  | .rti => false
  | .cbl _ _ => false
  | .cbs _ _ => false

/-- The instructions that write `X` (10_state.md R22). -/
def writesX : Instr → Bool
  | .ldaImm _ => false
  | .ldaZp _ => false
  | .ldaZpx _ => false
  | .ldaAbs _ => false
  | .ldaAbsx _ => false
  | .ldaAbsy _ => false
  | .ldaIndx _ => false
  | .ldaIndy _ => false
  | .ldxImm _ => true
  | .ldxZp _ => true
  | .ldxZpy _ => true
  | .ldxAbs _ => true
  | .ldxAbsy _ => true
  | .ldyImm _ => false
  | .ldyZp _ => false
  | .ldyZpx _ => false
  | .ldyAbs _ => false
  | .ldyAbsx _ => false
  | .staZp _ => false
  | .staZpx _ => false
  | .staAbs _ => false
  | .staAbsx _ => false
  | .staAbsy _ => false
  | .staIndx _ => false
  | .staIndy _ => false
  | .stxZp _ => false
  | .stxZpy _ => false
  | .stxAbs _ => false
  | .styZp _ => false
  | .styZpx _ => false
  | .styAbs _ => false
  | .cmpImm _ => false
  | .cmpZp _ => false
  | .cmpZpx _ => false
  | .cmpAbs _ => false
  | .cmpAbsx _ => false
  | .cmpAbsy _ => false
  | .cmpIndx _ => false
  | .cmpIndy _ => false
  | .cpxImm _ => false
  | .cpxZp _ => false
  | .cpxAbs _ => false
  | .cpyImm _ => false
  | .cpyZp _ => false
  | .cpyAbs _ => false
  | .adcImm _ => false
  | .adcZp _ => false
  | .adcZpx _ => false
  | .adcAbs _ => false
  | .adcAbsx _ => false
  | .adcAbsy _ => false
  | .adcIndx _ => false
  | .adcIndy _ => false
  | .sbcImm _ => false
  | .sbcZp _ => false
  | .sbcZpx _ => false
  | .sbcAbs _ => false
  | .sbcAbsx _ => false
  | .sbcAbsy _ => false
  | .sbcIndx _ => false
  | .sbcIndy _ => false
  | .aslAcc => false
  | .aslZp _ => false
  | .aslZpx _ => false
  | .aslAbs _ => false
  | .aslAbsx _ => false
  | .lsrAcc => false
  | .lsrZp _ => false
  | .lsrZpx _ => false
  | .lsrAbs _ => false
  | .lsrAbsx _ => false
  | .rolAcc => false
  | .rolZp _ => false
  | .rolZpx _ => false
  | .rolAbs _ => false
  | .rolAbsx _ => false
  | .rorAcc => false
  | .rorZp _ => false
  | .rorZpx _ => false
  | .rorAbs _ => false
  | .rorAbsx _ => false
  | .bitZp _ => false
  | .bitAbs _ => false
  | .andImm _ => false
  | .andZp _ => false
  | .andZpx _ => false
  | .andAbs _ => false
  | .andAbsx _ => false
  | .andAbsy _ => false
  | .andIndx _ => false
  | .andIndy _ => false
  | .oraImm _ => false
  | .oraZp _ => false
  | .oraZpx _ => false
  | .oraAbs _ => false
  | .oraAbsx _ => false
  | .oraAbsy _ => false
  | .oraIndx _ => false
  | .oraIndy _ => false
  | .eorImm _ => false
  | .eorZp _ => false
  | .eorZpx _ => false
  | .eorAbs _ => false
  | .eorAbsx _ => false
  | .eorAbsy _ => false
  | .eorIndx _ => false
  | .eorIndy _ => false
  | .incZp _ => false
  | .incZpx _ => false
  | .incAbs _ => false
  | .incAbsx _ => false
  | .decZp _ => false
  | .decZpx _ => false
  | .decAbs _ => false
  | .decAbsx _ => false
  | .inx => true
  | .iny => false
  | .dex => true
  | .dey => false
  | .tax => true
  | .tay => false
  | .txa => false
  | .tya => false
  | .tsx => true
  | .txs => false
  | .pha => false
  | .pla => false
  | .php => false
  | .plp => false
  | .bpl _ => false
  | .bmi _ => false
  | .bvc _ => false
  | .bvs _ => false
  | .bcc _ => false
  | .bcs _ => false
  | .bne _ => false
  | .beq _ => false
  | .jmpAbs _ => false
  | .jmpInd _ => false
  | .jsr _ => false
  | .rts => false
  | .clc => false
  | .sec => false
  | .cli => false
  | .sei => false
  | .clv => false
  | .cld => false
  | .sed => false
  | .nop => false
  | .brk => false
  | .err => false
  | .rti => false
  | .cbl _ _ => false
  | .cbs _ _ => false

/-- The instructions that write `Y` (10_state.md R23). -/
def writesY : Instr → Bool
  | .ldaImm _ => false
  | .ldaZp _ => false
  | .ldaZpx _ => false
  | .ldaAbs _ => false
  | .ldaAbsx _ => false
  | .ldaAbsy _ => false
  | .ldaIndx _ => false
  | .ldaIndy _ => false
  | .ldxImm _ => false
  | .ldxZp _ => false
  | .ldxZpy _ => false
  | .ldxAbs _ => false
  | .ldxAbsy _ => false
  | .ldyImm _ => true
  | .ldyZp _ => true
  | .ldyZpx _ => true
  | .ldyAbs _ => true
  | .ldyAbsx _ => true
  | .staZp _ => false
  | .staZpx _ => false
  | .staAbs _ => false
  | .staAbsx _ => false
  | .staAbsy _ => false
  | .staIndx _ => false
  | .staIndy _ => false
  | .stxZp _ => false
  | .stxZpy _ => false
  | .stxAbs _ => false
  | .styZp _ => false
  | .styZpx _ => false
  | .styAbs _ => false
  | .cmpImm _ => false
  | .cmpZp _ => false
  | .cmpZpx _ => false
  | .cmpAbs _ => false
  | .cmpAbsx _ => false
  | .cmpAbsy _ => false
  | .cmpIndx _ => false
  | .cmpIndy _ => false
  | .cpxImm _ => false
  | .cpxZp _ => false
  | .cpxAbs _ => false
  | .cpyImm _ => false
  | .cpyZp _ => false
  | .cpyAbs _ => false
  | .adcImm _ => false
  | .adcZp _ => false
  | .adcZpx _ => false
  | .adcAbs _ => false
  | .adcAbsx _ => false
  | .adcAbsy _ => false
  | .adcIndx _ => false
  | .adcIndy _ => false
  | .sbcImm _ => false
  | .sbcZp _ => false
  | .sbcZpx _ => false
  | .sbcAbs _ => false
  | .sbcAbsx _ => false
  | .sbcAbsy _ => false
  | .sbcIndx _ => false
  | .sbcIndy _ => false
  | .aslAcc => false
  | .aslZp _ => false
  | .aslZpx _ => false
  | .aslAbs _ => false
  | .aslAbsx _ => false
  | .lsrAcc => false
  | .lsrZp _ => false
  | .lsrZpx _ => false
  | .lsrAbs _ => false
  | .lsrAbsx _ => false
  | .rolAcc => false
  | .rolZp _ => false
  | .rolZpx _ => false
  | .rolAbs _ => false
  | .rolAbsx _ => false
  | .rorAcc => false
  | .rorZp _ => false
  | .rorZpx _ => false
  | .rorAbs _ => false
  | .rorAbsx _ => false
  | .bitZp _ => false
  | .bitAbs _ => false
  | .andImm _ => false
  | .andZp _ => false
  | .andZpx _ => false
  | .andAbs _ => false
  | .andAbsx _ => false
  | .andAbsy _ => false
  | .andIndx _ => false
  | .andIndy _ => false
  | .oraImm _ => false
  | .oraZp _ => false
  | .oraZpx _ => false
  | .oraAbs _ => false
  | .oraAbsx _ => false
  | .oraAbsy _ => false
  | .oraIndx _ => false
  | .oraIndy _ => false
  | .eorImm _ => false
  | .eorZp _ => false
  | .eorZpx _ => false
  | .eorAbs _ => false
  | .eorAbsx _ => false
  | .eorAbsy _ => false
  | .eorIndx _ => false
  | .eorIndy _ => false
  | .incZp _ => false
  | .incZpx _ => false
  | .incAbs _ => false
  | .incAbsx _ => false
  | .decZp _ => false
  | .decZpx _ => false
  | .decAbs _ => false
  | .decAbsx _ => false
  | .inx => false
  | .iny => true
  | .dex => false
  | .dey => true
  | .tax => false
  | .tay => true
  | .txa => false
  | .tya => false
  | .tsx => false
  | .txs => false
  | .pha => false
  | .pla => false
  | .php => false
  | .plp => false
  | .bpl _ => false
  | .bmi _ => false
  | .bvc _ => false
  | .bvs _ => false
  | .bcc _ => false
  | .bcs _ => false
  | .bne _ => false
  | .beq _ => false
  | .jmpAbs _ => false
  | .jmpInd _ => false
  | .jsr _ => false
  | .rts => false
  | .clc => false
  | .sec => false
  | .cli => false
  | .sei => false
  | .clv => false
  | .cld => false
  | .sed => false
  | .nop => false
  | .brk => false
  | .err => false
  | .rti => false
  | .cbl _ _ => false
  | .cbs _ _ => false

/-- The instructions that write `SP` (10_state.md R24). -/
def writesSP : Instr → Bool
  | .ldaImm _ => false
  | .ldaZp _ => false
  | .ldaZpx _ => false
  | .ldaAbs _ => false
  | .ldaAbsx _ => false
  | .ldaAbsy _ => false
  | .ldaIndx _ => false
  | .ldaIndy _ => false
  | .ldxImm _ => false
  | .ldxZp _ => false
  | .ldxZpy _ => false
  | .ldxAbs _ => false
  | .ldxAbsy _ => false
  | .ldyImm _ => false
  | .ldyZp _ => false
  | .ldyZpx _ => false
  | .ldyAbs _ => false
  | .ldyAbsx _ => false
  | .staZp _ => false
  | .staZpx _ => false
  | .staAbs _ => false
  | .staAbsx _ => false
  | .staAbsy _ => false
  | .staIndx _ => false
  | .staIndy _ => false
  | .stxZp _ => false
  | .stxZpy _ => false
  | .stxAbs _ => false
  | .styZp _ => false
  | .styZpx _ => false
  | .styAbs _ => false
  | .cmpImm _ => false
  | .cmpZp _ => false
  | .cmpZpx _ => false
  | .cmpAbs _ => false
  | .cmpAbsx _ => false
  | .cmpAbsy _ => false
  | .cmpIndx _ => false
  | .cmpIndy _ => false
  | .cpxImm _ => false
  | .cpxZp _ => false
  | .cpxAbs _ => false
  | .cpyImm _ => false
  | .cpyZp _ => false
  | .cpyAbs _ => false
  | .adcImm _ => false
  | .adcZp _ => false
  | .adcZpx _ => false
  | .adcAbs _ => false
  | .adcAbsx _ => false
  | .adcAbsy _ => false
  | .adcIndx _ => false
  | .adcIndy _ => false
  | .sbcImm _ => false
  | .sbcZp _ => false
  | .sbcZpx _ => false
  | .sbcAbs _ => false
  | .sbcAbsx _ => false
  | .sbcAbsy _ => false
  | .sbcIndx _ => false
  | .sbcIndy _ => false
  | .aslAcc => false
  | .aslZp _ => false
  | .aslZpx _ => false
  | .aslAbs _ => false
  | .aslAbsx _ => false
  | .lsrAcc => false
  | .lsrZp _ => false
  | .lsrZpx _ => false
  | .lsrAbs _ => false
  | .lsrAbsx _ => false
  | .rolAcc => false
  | .rolZp _ => false
  | .rolZpx _ => false
  | .rolAbs _ => false
  | .rolAbsx _ => false
  | .rorAcc => false
  | .rorZp _ => false
  | .rorZpx _ => false
  | .rorAbs _ => false
  | .rorAbsx _ => false
  | .bitZp _ => false
  | .bitAbs _ => false
  | .andImm _ => false
  | .andZp _ => false
  | .andZpx _ => false
  | .andAbs _ => false
  | .andAbsx _ => false
  | .andAbsy _ => false
  | .andIndx _ => false
  | .andIndy _ => false
  | .oraImm _ => false
  | .oraZp _ => false
  | .oraZpx _ => false
  | .oraAbs _ => false
  | .oraAbsx _ => false
  | .oraAbsy _ => false
  | .oraIndx _ => false
  | .oraIndy _ => false
  | .eorImm _ => false
  | .eorZp _ => false
  | .eorZpx _ => false
  | .eorAbs _ => false
  | .eorAbsx _ => false
  | .eorAbsy _ => false
  | .eorIndx _ => false
  | .eorIndy _ => false
  | .incZp _ => false
  | .incZpx _ => false
  | .incAbs _ => false
  | .incAbsx _ => false
  | .decZp _ => false
  | .decZpx _ => false
  | .decAbs _ => false
  | .decAbsx _ => false
  | .inx => false
  | .iny => false
  | .dex => false
  | .dey => false
  | .tax => false
  | .tay => false
  | .txa => false
  | .tya => false
  | .tsx => false
  | .txs => true
  | .pha => true
  | .pla => true
  | .php => true
  | .plp => true
  | .bpl _ => false
  | .bmi _ => false
  | .bvc _ => false
  | .bvs _ => false
  | .bcc _ => false
  | .bcs _ => false
  | .bne _ => false
  | .beq _ => false
  | .jmpAbs _ => false
  | .jmpInd _ => false
  | .jsr _ => true
  | .rts => true
  | .clc => false
  | .sec => false
  | .cli => false
  | .sei => false
  | .clv => false
  | .cld => false
  | .sed => false
  | .nop => false
  | .brk => false
  | .err => false
  | .rti => true
  | .cbl _ _ => false
  | .cbs _ _ => false

/-- The instructions that store to memory (their rules, 41_load_store.md to 49_system_custom.md). -/
def storesMemory : Instr → Bool
  | .ldaImm _ => false
  | .ldaZp _ => false
  | .ldaZpx _ => false
  | .ldaAbs _ => false
  | .ldaAbsx _ => false
  | .ldaAbsy _ => false
  | .ldaIndx _ => false
  | .ldaIndy _ => false
  | .ldxImm _ => false
  | .ldxZp _ => false
  | .ldxZpy _ => false
  | .ldxAbs _ => false
  | .ldxAbsy _ => false
  | .ldyImm _ => false
  | .ldyZp _ => false
  | .ldyZpx _ => false
  | .ldyAbs _ => false
  | .ldyAbsx _ => false
  | .staZp _ => true
  | .staZpx _ => true
  | .staAbs _ => true
  | .staAbsx _ => true
  | .staAbsy _ => true
  | .staIndx _ => true
  | .staIndy _ => true
  | .stxZp _ => true
  | .stxZpy _ => true
  | .stxAbs _ => true
  | .styZp _ => true
  | .styZpx _ => true
  | .styAbs _ => true
  | .cmpImm _ => false
  | .cmpZp _ => false
  | .cmpZpx _ => false
  | .cmpAbs _ => false
  | .cmpAbsx _ => false
  | .cmpAbsy _ => false
  | .cmpIndx _ => false
  | .cmpIndy _ => false
  | .cpxImm _ => false
  | .cpxZp _ => false
  | .cpxAbs _ => false
  | .cpyImm _ => false
  | .cpyZp _ => false
  | .cpyAbs _ => false
  | .adcImm _ => false
  | .adcZp _ => false
  | .adcZpx _ => false
  | .adcAbs _ => false
  | .adcAbsx _ => false
  | .adcAbsy _ => false
  | .adcIndx _ => false
  | .adcIndy _ => false
  | .sbcImm _ => false
  | .sbcZp _ => false
  | .sbcZpx _ => false
  | .sbcAbs _ => false
  | .sbcAbsx _ => false
  | .sbcAbsy _ => false
  | .sbcIndx _ => false
  | .sbcIndy _ => false
  | .aslAcc => false
  | .aslZp _ => true
  | .aslZpx _ => true
  | .aslAbs _ => true
  | .aslAbsx _ => true
  | .lsrAcc => false
  | .lsrZp _ => true
  | .lsrZpx _ => true
  | .lsrAbs _ => true
  | .lsrAbsx _ => true
  | .rolAcc => false
  | .rolZp _ => true
  | .rolZpx _ => true
  | .rolAbs _ => true
  | .rolAbsx _ => true
  | .rorAcc => false
  | .rorZp _ => true
  | .rorZpx _ => true
  | .rorAbs _ => true
  | .rorAbsx _ => true
  | .bitZp _ => false
  | .bitAbs _ => false
  | .andImm _ => false
  | .andZp _ => false
  | .andZpx _ => false
  | .andAbs _ => false
  | .andAbsx _ => false
  | .andAbsy _ => false
  | .andIndx _ => false
  | .andIndy _ => false
  | .oraImm _ => false
  | .oraZp _ => false
  | .oraZpx _ => false
  | .oraAbs _ => false
  | .oraAbsx _ => false
  | .oraAbsy _ => false
  | .oraIndx _ => false
  | .oraIndy _ => false
  | .eorImm _ => false
  | .eorZp _ => false
  | .eorZpx _ => false
  | .eorAbs _ => false
  | .eorAbsx _ => false
  | .eorAbsy _ => false
  | .eorIndx _ => false
  | .eorIndy _ => false
  | .incZp _ => true
  | .incZpx _ => true
  | .incAbs _ => true
  | .incAbsx _ => true
  | .decZp _ => true
  | .decZpx _ => true
  | .decAbs _ => true
  | .decAbsx _ => true
  | .inx => false
  | .iny => false
  | .dex => false
  | .dey => false
  | .tax => false
  | .tay => false
  | .txa => false
  | .tya => false
  | .tsx => false
  | .txs => false
  | .pha => true
  | .pla => false
  | .php => true
  | .plp => false
  | .bpl _ => false
  | .bmi _ => false
  | .bvc _ => false
  | .bvs _ => false
  | .bcc _ => false
  | .bcs _ => false
  | .bne _ => false
  | .beq _ => false
  | .jmpAbs _ => false
  | .jmpInd _ => false
  | .jsr _ => true
  | .rts => false
  | .clc => false
  | .sec => false
  | .cli => false
  | .sei => false
  | .clv => false
  | .cld => false
  | .sed => false
  | .nop => false
  | .brk => false
  | .err => false
  | .rti => false
  | .cbl _ _ => true
  | .cbs _ _ => true

/-- The flags an instruction writes: its row of the table of 10_state.md R39. -/
def flagRow : Instr → List Flag
  | .ldaImm _ => [.n, .z]
  | .ldaZp _ => [.n, .z]
  | .ldaZpx _ => [.n, .z]
  | .ldaAbs _ => [.n, .z]
  | .ldaAbsx _ => [.n, .z]
  | .ldaAbsy _ => [.n, .z]
  | .ldaIndx _ => [.n, .z]
  | .ldaIndy _ => [.n, .z]
  | .ldxImm _ => [.n, .z]
  | .ldxZp _ => [.n, .z]
  | .ldxZpy _ => [.n, .z]
  | .ldxAbs _ => [.n, .z]
  | .ldxAbsy _ => [.n, .z]
  | .ldyImm _ => [.n, .z]
  | .ldyZp _ => [.n, .z]
  | .ldyZpx _ => [.n, .z]
  | .ldyAbs _ => [.n, .z]
  | .ldyAbsx _ => [.n, .z]
  | .staZp _ => []
  | .staZpx _ => []
  | .staAbs _ => []
  | .staAbsx _ => []
  | .staAbsy _ => []
  | .staIndx _ => []
  | .staIndy _ => []
  | .stxZp _ => []
  | .stxZpy _ => []
  | .stxAbs _ => []
  | .styZp _ => []
  | .styZpx _ => []
  | .styAbs _ => []
  | .cmpImm _ => [.n, .z, .c]
  | .cmpZp _ => [.n, .z, .c]
  | .cmpZpx _ => [.n, .z, .c]
  | .cmpAbs _ => [.n, .z, .c]
  | .cmpAbsx _ => [.n, .z, .c]
  | .cmpAbsy _ => [.n, .z, .c]
  | .cmpIndx _ => [.n, .z, .c]
  | .cmpIndy _ => [.n, .z, .c]
  | .cpxImm _ => [.n, .z, .c]
  | .cpxZp _ => [.n, .z, .c]
  | .cpxAbs _ => [.n, .z, .c]
  | .cpyImm _ => [.n, .z, .c]
  | .cpyZp _ => [.n, .z, .c]
  | .cpyAbs _ => [.n, .z, .c]
  | .adcImm _ => [.n, .z, .c]
  | .adcZp _ => [.n, .z, .c]
  | .adcZpx _ => [.n, .z, .c]
  | .adcAbs _ => [.n, .z, .c]
  | .adcAbsx _ => [.n, .z, .c]
  | .adcAbsy _ => [.n, .z, .c]
  | .adcIndx _ => [.n, .z, .c]
  | .adcIndy _ => [.n, .z, .c]
  | .sbcImm _ => [.n, .v, .z, .c]
  | .sbcZp _ => [.n, .v, .z, .c]
  | .sbcZpx _ => [.n, .v, .z, .c]
  | .sbcAbs _ => [.n, .v, .z, .c]
  | .sbcAbsx _ => [.n, .v, .z, .c]
  | .sbcAbsy _ => [.n, .v, .z, .c]
  | .sbcIndx _ => [.n, .v, .z, .c]
  | .sbcIndy _ => [.n, .v, .z, .c]
  | .aslAcc => [.n, .z, .c]
  | .aslZp _ => [.c]
  | .aslZpx _ => [.c]
  | .aslAbs _ => [.c]
  | .aslAbsx _ => [.c]
  | .lsrAcc => [.n, .z, .c]
  | .lsrZp _ => [.c]
  | .lsrZpx _ => [.c]
  | .lsrAbs _ => [.c]
  | .lsrAbsx _ => [.c]
  | .rolAcc => [.n, .z, .c]
  | .rolZp _ => [.c]
  | .rolZpx _ => [.c]
  | .rolAbs _ => [.c]
  | .rolAbsx _ => [.c]
  | .rorAcc => [.n, .z, .c]
  | .rorZp _ => [.c]
  | .rorZpx _ => [.c]
  | .rorAbs _ => [.c]
  | .rorAbsx _ => [.c]
  | .bitZp _ => [.n, .v, .z]
  | .bitAbs _ => [.n, .v, .z]
  | .andImm _ => [.n, .z]
  | .andZp _ => [.n, .z]
  | .andZpx _ => [.n, .z]
  | .andAbs _ => [.n, .z]
  | .andAbsx _ => [.n, .z]
  | .andAbsy _ => [.n, .z]
  | .andIndx _ => [.n, .z]
  | .andIndy _ => [.n, .z]
  | .oraImm _ => [.n, .z]
  | .oraZp _ => [.n, .z]
  | .oraZpx _ => [.n, .z]
  | .oraAbs _ => [.n, .z]
  | .oraAbsx _ => [.n, .z]
  | .oraAbsy _ => [.n, .z]
  | .oraIndx _ => [.n, .z]
  | .oraIndy _ => [.n, .z]
  | .eorImm _ => [.n, .z]
  | .eorZp _ => [.n, .z]
  | .eorZpx _ => [.n, .z]
  | .eorAbs _ => [.n, .z]
  | .eorAbsx _ => [.n, .z]
  | .eorAbsy _ => [.n, .z]
  | .eorIndx _ => [.n, .z]
  | .eorIndy _ => [.n, .z]
  | .incZp _ => []
  | .incZpx _ => []
  | .incAbs _ => []
  | .incAbsx _ => []
  | .decZp _ => []
  | .decZpx _ => []
  | .decAbs _ => []
  | .decAbsx _ => []
  | .inx => [.n, .z]
  | .iny => [.n, .z]
  | .dex => [.n, .z]
  | .dey => [.n, .z]
  | .tax => [.n, .z]
  | .tay => [.n, .z]
  | .txa => [.n, .z]
  | .tya => [.n, .z]
  | .tsx => [.n, .z]
  | .txs => []
  | .pha => []
  | .pla => [.n, .z]
  | .php => []
  | .plp => [.n, .v, .u, .b, .d, .i, .z, .c]
  | .bpl _ => []
  | .bmi _ => []
  | .bvc _ => []
  | .bvs _ => []
  | .bcc _ => []
  | .bcs _ => []
  | .bne _ => []
  | .beq _ => []
  | .jmpAbs _ => []
  | .jmpInd _ => []
  | .jsr _ => []
  | .rts => []
  | .clc => [.c]
  | .sec => [.c]
  | .cli => [.i]
  | .sei => [.i]
  | .clv => [.v]
  | .cld => [.d]
  | .sed => [.d]
  | .nop => []
  | .brk => []
  | .err => []
  | .rti => [.n, .v, .u, .b, .d, .i, .z, .c]
  | .cbl _ _ => []
  | .cbs _ _ => []

/-- The zero-page address of the pointer an indirect form reads (40_addressing.md R128, R129). -/
def indirectPointer (s : State) : Instr → Option Byte
  | .ldaImm _ => none
  | .ldaZp _ => none
  | .ldaZpx _ => none
  | .ldaAbs _ => none
  | .ldaAbsx _ => none
  | .ldaAbsy _ => none
  | .ldaIndx z => some (z + s.x)
  | .ldaIndy z => some z
  | .ldxImm _ => none
  | .ldxZp _ => none
  | .ldxZpy _ => none
  | .ldxAbs _ => none
  | .ldxAbsy _ => none
  | .ldyImm _ => none
  | .ldyZp _ => none
  | .ldyZpx _ => none
  | .ldyAbs _ => none
  | .ldyAbsx _ => none
  | .staZp _ => none
  | .staZpx _ => none
  | .staAbs _ => none
  | .staAbsx _ => none
  | .staAbsy _ => none
  | .staIndx z => some (z + s.x)
  | .staIndy z => some z
  | .stxZp _ => none
  | .stxZpy _ => none
  | .stxAbs _ => none
  | .styZp _ => none
  | .styZpx _ => none
  | .styAbs _ => none
  | .cmpImm _ => none
  | .cmpZp _ => none
  | .cmpZpx _ => none
  | .cmpAbs _ => none
  | .cmpAbsx _ => none
  | .cmpAbsy _ => none
  | .cmpIndx z => some (z + s.x)
  | .cmpIndy z => some z
  | .cpxImm _ => none
  | .cpxZp _ => none
  | .cpxAbs _ => none
  | .cpyImm _ => none
  | .cpyZp _ => none
  | .cpyAbs _ => none
  | .adcImm _ => none
  | .adcZp _ => none
  | .adcZpx _ => none
  | .adcAbs _ => none
  | .adcAbsx _ => none
  | .adcAbsy _ => none
  | .adcIndx z => some (z + s.x)
  | .adcIndy z => some z
  | .sbcImm _ => none
  | .sbcZp _ => none
  | .sbcZpx _ => none
  | .sbcAbs _ => none
  | .sbcAbsx _ => none
  | .sbcAbsy _ => none
  | .sbcIndx z => some (z + s.x)
  | .sbcIndy z => some z
  | .aslAcc => none
  | .aslZp _ => none
  | .aslZpx _ => none
  | .aslAbs _ => none
  | .aslAbsx _ => none
  | .lsrAcc => none
  | .lsrZp _ => none
  | .lsrZpx _ => none
  | .lsrAbs _ => none
  | .lsrAbsx _ => none
  | .rolAcc => none
  | .rolZp _ => none
  | .rolZpx _ => none
  | .rolAbs _ => none
  | .rolAbsx _ => none
  | .rorAcc => none
  | .rorZp _ => none
  | .rorZpx _ => none
  | .rorAbs _ => none
  | .rorAbsx _ => none
  | .bitZp _ => none
  | .bitAbs _ => none
  | .andImm _ => none
  | .andZp _ => none
  | .andZpx _ => none
  | .andAbs _ => none
  | .andAbsx _ => none
  | .andAbsy _ => none
  | .andIndx z => some (z + s.x)
  | .andIndy z => some z
  | .oraImm _ => none
  | .oraZp _ => none
  | .oraZpx _ => none
  | .oraAbs _ => none
  | .oraAbsx _ => none
  | .oraAbsy _ => none
  | .oraIndx z => some (z + s.x)
  | .oraIndy z => some z
  | .eorImm _ => none
  | .eorZp _ => none
  | .eorZpx _ => none
  | .eorAbs _ => none
  | .eorAbsx _ => none
  | .eorAbsy _ => none
  | .eorIndx z => some (z + s.x)
  | .eorIndy z => some z
  | .incZp _ => none
  | .incZpx _ => none
  | .incAbs _ => none
  | .incAbsx _ => none
  | .decZp _ => none
  | .decZpx _ => none
  | .decAbs _ => none
  | .decAbsx _ => none
  | .inx => none
  | .iny => none
  | .dex => none
  | .dey => none
  | .tax => none
  | .tay => none
  | .txa => none
  | .tya => none
  | .tsx => none
  | .txs => none
  | .pha => none
  | .pla => none
  | .php => none
  | .plp => none
  | .bpl _ => none
  | .bmi _ => none
  | .bvc _ => none
  | .bvs _ => none
  | .bcc _ => none
  | .bcs _ => none
  | .bne _ => none
  | .beq _ => none
  | .jmpAbs _ => none
  | .jmpInd _ => none
  | .jsr _ => none
  | .rts => none
  | .clc => none
  | .sec => none
  | .cli => none
  | .sei => none
  | .clv => none
  | .cld => none
  | .sed => none
  | .nop => none
  | .brk => none
  | .err => none
  | .rti => none
  | .cbl _ _ => none
  | .cbs _ _ => none

/-! ## Words the statements share -/

/-- The flags listed in `w` are written with the values given there, and every other flag of P is as before. -/
def FlagsWritten (w : List (Flag × Bool)) (s t : State) : Prop :=
  ∀ f, t.flag f = (w.lookup f).getD (s.flag f)

/-- The writes of Z and N that go with a register written with `v` (00_scope.md R11). -/
def nz (v : Byte) : List (Flag × Bool) := [(.z, v == 0), (.n, v.getLsbD 7)]

/-- PC past an instruction, mod 65536 (10_state.md R26). -/
def nextPC (i : Instr) (s : State) : Word := s.pc + BitVec.ofNat 16 i.length

/-- `t` is `s` but for PC, past the instruction, and P, of which only the flags of `w` are written. -/
def OnlyFlags (i : Instr) (w : List (Flag × Bool)) (s t : State) : Prop :=
  t = { s with p := t.p, pc := nextPC i s } ∧ FlagsWritten w s t

/-- `t` is `s` but for A written with `v`, PC past the instruction, and P, of which only the flags of `w` are written. -/
def WritesA (i : Instr) (v : Byte) (w : List (Flag × Bool)) (s t : State) : Prop :=
  t = { s with a := v, p := t.p, pc := nextPC i s } ∧ FlagsWritten w s t

/-- The same of X. -/
def WritesX (i : Instr) (v : Byte) (w : List (Flag × Bool)) (s t : State) : Prop :=
  t = { s with x := v, p := t.p, pc := nextPC i s } ∧ FlagsWritten w s t

/-- The same of Y. -/
def WritesY (i : Instr) (v : Byte) (w : List (Flag × Bool)) (s t : State) : Prop :=
  t = { s with y := v, p := t.p, pc := nextPC i s } ∧ FlagsWritten w s t

/-- The byte at `ea` becomes `v` and every other byte of memory reads as before. -/
def OnlyByte (ea : Word) (v : Byte) (s t : State) : Prop :=
  t.readByte ea = v ∧ ∀ b, b ≠ ea → t.readByte b = s.readByte b

/-- `t` is `s` but for PC, past the instruction, the byte `v` at `ea`, and the flags of `w`. -/
def StoresByte (i : Instr) (ea : Word) (v : Byte) (w : List (Flag × Bool)) (s t : State) : Prop :=
  t = { s with mem := t.mem, p := t.p, pc := nextPC i s } ∧ OnlyByte ea v s t ∧ FlagsWritten w s t

/-- The instruction answers a next state, of which `q` holds, and its encoding starts with `op`. -/
def Runs (op : Byte) (i : Instr) (s : State) (q : State → Prop) : Prop :=
  (encode s.cfg i).head? = some op ∧ ∃ t, exec i s = .next t ∧ q t

/-- No input is taken by the next step. -/
def NoInputTaken (s : State) : Prop := ∀ j rest, s.inbox = j :: rest → s.mayTake j = false

/-- The next step executes an instruction of the program: inside an interval, quota left, no suspend point. -/
def InInterval (s : State) (k : Nat) : Prop :=
  NoInputTaken s ∧ s.run = .running ∧ s.intervalSteps = some k ∧ k < s.cfg.stepQuota ∧ s.suspendHere = false

/-- The next step executes an instruction of the handler: in the service loop, budget left, no suspend point. -/
def InService (s : State) : Prop :=
  NoInputTaken s ∧ s.run = .servicing ∧ s.inProgress = true ∧ s.serviceSteps < s.cfg.intStepBudget ∧
    s.suspendHere = false

/-- The opcode at PC raises a fatal event with the reason `r`: an opcode byte with no entry, BRK, or ERR
(60_exceptions.md R252 to R254). -/
def FatalOpcode (s : State) (r : HaltReason) : Prop :=
  (dispatch s.cfg (s.readByte s.pc) = none ∧ r = .unknownOpcode s.pc (s.readByte s.pc)) ∨
  (∃ rest, decode s.cfg s.fetchBytes = .ok (.brk, rest) ∧ r = .brk s.pc) ∨
  (∃ rest, decode s.cfg s.fetchBytes = .ok (.err, rest) ∧ r = .softwareError s.pc)

/-- N pushes, the head of the list first. -/
def pushAll (s : State) : List Byte → State
  | [] => s
  | v :: rest => pushAll (s.push v) rest

/-- N pulls: the bytes in the order they come. -/
def pullAll : Nat → State → List Byte
  | 0, _ => []
  | n + 1, s => s.pulled :: pullAll n s.dropTop

/-- The state N pulls leave. -/
def dropAll : Nat → State → State
  | 0, s => s
  | n + 1, s => dropAll n s.dropTop

/-- The next states of the two outcomes are equal but for the Decimal flag, written `e` in the second; the stops are
equal. -/
def SameButDecimal (e : Bool) : Result → Result → Prop
  | .next t, .next u => u = t.setFlag .d e
  | .fault a, .fault b => a = b
  | .refused a, .refused b => a = b
  | _, _ => False

end Sys2Proof.Claim

open Sys2Proof Sys2Proof.Machine Sys2Proof.Claim

/-! ## Encoding -/

/-- Decoding the encoding of a well-formed instruction gives it back, with the bytes after it (30_encoding.md R90, R91,
R94). The layout of the block copies is the spec's own decision D19 (log entry 15), the catalogue and its bytes its
decisions D1, D2 and D3 from general knowledge of the 6502 (log entries 5 and 6). -/
def Obligations.DecodeOfEncodeIsTheInstruction : Prop :=
  ∀ (c : Config) (i : Instr) (rest : List Byte), c.wf = true → i.wf c = true →
    decode c (encode c i ++ rest) = .ok (i, rest)

/-- Bytes that decode are the encoding of what they decode to, and that is in the catalogue (30_encoding.md R93 to R97).
The layout of the block copies is the spec's own decision D19 (log entry 15), the catalogue and its bytes its decisions
D1, D2 and D3 from general knowledge of the 6502 (log entries 5 and 6). -/
def Obligations.DecodedBytesAreTheEncoding : Prop :=
  ∀ (c : Config) (bytes : List Byte) (i : Instr) (rest : List Byte), c.wf = true → decode c bytes = .ok (i, rest) →
    bytes = encode c i ++ rest ∧ i.wf c = true

/-- Words written out from the spec's encodings decode to the instructions they stand for (30_encoding.md R98). The byte
values, the COMPAT row JSR, and the default byte and layout of CBL are the spec's from general knowledge of the 6502 and its
own decisions D1, D2, D3 and D19, not its source's (log entries 5 and 6, and 15 for D19). -/
def Obligations.WrittenWordsDecode : Prop :=
  decode Config.default [0xA9, 0x7F] = .ok (.ldaImm 0x7F, []) ∧
    decode Config.default [0xBD, 0x34, 0x12] = .ok (.ldaAbsx 0x1234, []) ∧
    decode Config.default [0xF1, 0x40] = .ok (.sbcIndy 0x40, []) ∧
    decode Config.default [0xD0, 0xFB] = .ok (.bne 0xFB, []) ∧
    decode Config.default [0x03, 0x00, 0x10, 0x04] = .ok (.cbl 0x1000 0x04, []) ∧
    decode Config.default [0x20, 0x00, 0x07] = .error (.unknownOpcode 0x20) ∧
    decode Config.full [0x20, 0x00, 0x07] = .ok (.jsr 0x0700, [])

/-! ## The step -/

/-- When no input is taken and the bytes at PC decode to an instruction, a step inside an interval, or inside the service
loop, is exec of that instruction after the annotations of this address are emitted; it then clears the just-resumed guard
and counts the step, unless the instruction raised a fatal event (30_encoding.md R92, 60_exceptions.md R260, R267, R273). -/
def Obligations.StepRunsTheDecodedInstruction : Prop :=
  ∀ (s : State) (i : Instr) (rest : List Byte), decode s.cfg s.fetchBytes = .ok (i, rest) →
    (∀ k, InInterval s k →
      step s = match exec i s.consultDebug with
        | .next t => if t.isHalted then .next t
                     else .next { t with justResumed := false, intervalSteps := some (k + 1) }
        | .fault e => .fault e
        | .refused r => .refused r) ∧
    (InService s →
      step s = match exec i s.consultDebug with
        | .next t => if t.isHalted then .next t
                     else .next { t with justResumed := false, serviceSteps := t.serviceSteps + 1 }
        | .fault e => .fault e
        | .refused r => .refused r)

/-- An opcode byte with no entry halts the core with UnknownOpcode, its address and the byte, before any operand is fetched;
no register but PC, no flag and no memory byte changes (60_exceptions.md R252). That nothing else changes is the spec's own
decision D18 (log entry 15). PC is unspecified, a free value: log entry 8. -/
def Obligations.UnknownOpcodeHalts : Prop :=
  ∀ (s : State), dispatch s.cfg (s.readByte s.pc) = none → ((∃ k, InInterval s k) ∨ InService s) →
    ∃ t, step s = .next t ∧
      t = { s.consultDebug with
            run := .halted (.unknownOpcode s.pc (s.readByte s.pc))
            pc := t.pc
            freeIndex := t.freeIndex }

/-- The invariant holds at reset, and at boot with any well-formed parameters and any canonical image. -/
def Obligations.ResetMeetsTheInvariant : Prop :=
  State.reset.Inv ∧
    ∀ (c : Config) (image : Memory), c.wf = true → Memory.wf image = true → (State.boot c image).Inv

/-- Every step keeps the invariant. -/
def Obligations.StepKeepsTheInvariant : Prop :=
  ∀ (s t : State), s.Inv → step s = .next t → t.Inv

/-- A stored byte is what the next fetch of its address returns, for every byte of an instruction (20_memory.md R76). -/
def Obligations.StoredByteIsFetched : Prop :=
  ∀ (s : State) (k : Nat) (v : Byte), Memory.wf s.mem = true → k < 4 →
    (s.writeByte (s.pc + BitVec.ofNat 16 k) v).fetchBytes[k]? = some v

/-- The annotations of the address in PC are emitted in their order, unless the machine just resumed, and that is all the
debug table does (60_exceptions.md R260, R261). That an emission changes no architectural state is the spec's own decision
D32; the list that records it is the model's choice (log entry 17). -/
def Obligations.AnnotationsFireUnlessJustResumed : Prop :=
  ∀ (s : State),
    (s.justResumed = true → s.consultDebug = s) ∧
    (s.justResumed = false →
      s.consultDebug = { s with emitted := s.emitted ++ s.cfg.debugTable.filter (fun e => e.1 == s.pc) })

/-- No step writes a parameter or a breakpoint table (10_state.md R46, R47). -/
def Obligations.StepNeverWritesParameters : Prop :=
  ∀ (s t : State), step s = .next t → t.cfg = s.cfg

/-- Reset, in any run state, gives every piece of state its value of 10_state.md R49, and memory stays
(70_reset_and_hazards.md R300 to R302). A, X and Y take the parameters, any value (decision D5; log entry 2); that `run` is
Idle is the spec's own decision D36 (log entry 15). That the input is taken in any run state, and what stays besides memory,
is the model's choice (log entries 11 and 19). -/
def Obligations.ResetInputResets : Prop :=
  ∀ (s : State) (rest : List Input), s.inbox = .reset :: rest →
    ∃ t, step s = .next t ∧ t.pc = s.cfg.programStart ∧ t.sp = 0xFF ∧ t.p = 0x00 ∧ t.a = s.cfg.resetA ∧
      t.x = s.cfg.resetX ∧ t.y = s.cfg.resetY ∧ t.run = .idle ∧ t.inProgress = false ∧ t.justResumed = false ∧
      t.intervalCount = 0 ∧ t.intervalSteps = none ∧ t.serviceSteps = 0 ∧ t.mem = s.mem ∧ t.cfg = s.cfg ∧
      t.inbox = rest

/-! ## Registers and operand forms -/

/-- The setters: the integer narrowed, and Z and N for A, X, Y (00_scope.md R11). -/
def Obligations.SettersNarrowAndSetFlags : Prop :=
  ∀ (s : State) (v : Int),
    let b : Byte := BitVec.ofInt 8 v
    ((s.setA b).a.toNat = (v % 256).toNat ∧ FlagsWritten [(.z, decide (v % 256 = 0)), (.n, b.getLsbD 7)] s (s.setA b)) ∧
    ((s.setX b).x.toNat = (v % 256).toNat ∧ FlagsWritten [(.z, decide (v % 256 = 0)), (.n, b.getLsbD 7)] s (s.setX b)) ∧
    ((s.setY b).y.toNat = (v % 256).toNat ∧ FlagsWritten [(.z, decide (v % 256 = 0)), (.n, b.getLsbD 7)] s (s.setY b)) ∧
    ((s.setPC (BitVec.ofInt 16 v)).pc.toNat = (v % 65536).toNat ∧ (s.setPC (BitVec.ofInt 16 v)).p = s.p) ∧
    ((s.setSP b).sp.toNat = (v % 256).toNat ∧ (s.setSP b).p = s.p) ∧
    ((s.setP b).p.toNat = (v % 256).toNat)

/-- The effective address of every form, in integer arithmetic (40_addressing.md R121 to R129, R134): zero-page sums mod
256, absolute sums mod 65536, the pointer of the indirect forms low byte first; the pointer at 0xFF as ZP_PTR_WRAP says.
The pointer's byte order is the spec's own decision D11, its place at 0xFF its decision D10 (log entry 15); the name of
the refusal is log entry 14. -/
def Obligations.EffectiveAddresses : Prop :=
  ∀ (s : State) (z v : Byte) (a : Word),
    (∃ w, formAddress (.imm v) s = .ok w ∧ w.toNat = (s.pc.toNat + 1) % 65536) ∧
    (∃ w, formAddress (.zp z) s = .ok w ∧ w.toNat = z.toNat) ∧
    (∃ w, formAddress (.zpx z) s = .ok w ∧ w.toNat = (z.toNat + s.x.toNat) % 256) ∧
    (∃ w, formAddress (.zpy z) s = .ok w ∧ w.toNat = (z.toNat + s.y.toNat) % 256) ∧
    (∃ w, formAddress (.abs a) s = .ok w ∧ w.toNat = a.toNat) ∧
    (∃ w, formAddress (.absx a) s = .ok w ∧ w.toNat = (a.toNat + s.x.toNat) % 65536) ∧
    (∃ w, formAddress (.absy a) s = .ok w ∧ w.toNat = (a.toNat + s.y.toNat) % 65536) ∧
    (∀ p hi : Nat, p = (z.toNat + s.x.toNat) % 256 →
      (hi = p + 1 ∧ p ≠ 255 ∨ p = 255 ∧ (hi = 0 ∧ s.cfg.zpPtrWrap = .wrap ∨ hi = 256 ∧ s.cfg.zpPtrWrap = .linear)) →
      ∃ w, formAddress (.indx z) s = .ok w ∧ w.toNat = (s.mem.read hi).toNat * 256 + (s.mem.read p).toNat) ∧
    (∀ hi : Nat,
      (hi = z.toNat + 1 ∧ z.toNat ≠ 255 ∨
        z.toNat = 255 ∧ (hi = 0 ∧ s.cfg.zpPtrWrap = .wrap ∨ hi = 256 ∧ s.cfg.zpPtrWrap = .linear)) →
      ∃ w, formAddress (.indy z) s = .ok w ∧
        w.toNat = ((s.mem.read hi).toNat * 256 + (s.mem.read z.toNat).toNat + s.y.toNat) % 65536) ∧
    (s.cfg.zpPtrWrap = .refuse →
      ((z.toNat + s.x.toNat) % 256 = 255 → formAddress (.indx z) s = .error .zeroPagePointerAtFF) ∧
      (z.toNat = 255 → formAddress (.indy z) s = .error .zeroPagePointerAtFF))

/-- The value query: the operand byte for IMM, else the byte at the effective address; refused where the address is
(40_addressing.md R120, R121). -/
def Obligations.OperandValues : Prop :=
  ∀ (s : State) (f : Form),
    (∀ v, f = .imm v → formValue f s = .ok v) ∧
    (∀ w, (∀ v, f ≠ .imm v) → formAddress f s = .ok w → formValue f s = .ok (s.readByte w)) ∧
    (∀ r, formAddress f s = .error r → formValue f s = .error r)

/-! ## Loads and stores (41_load_store.md) -/

/-- LDA, LDX, LDY in every form: the register takes the operand's value, Z and N follow it, nothing else but PC changes. -/
def Obligations.LoadsWriteTheRegister : Prop :=
  ∀ (s : State) (f : Form) (v op : Byte) (i : Instr), formValue f s = .ok v →
    (ldaForms f = some (op, i) → Runs op i s (WritesA i v (nz v) s)) ∧
    (ldxForms f = some (op, i) → Runs op i s (WritesX i v (nz v) s)) ∧
    (ldyForms f = some (op, i) → Runs op i s (WritesY i v (nz v) s))

/-- STA, STX, STY in every form: the byte at the effective address takes the register, nothing else but PC changes
(41_load_store.md R143 to R145). -/
def Obligations.StoresWriteOneByte : Prop :=
  ∀ (s : State) (f : Form) (ea : Word) (op : Byte) (i : Instr), Memory.wf s.mem = true → formAddress f s = .ok ea →
    (staForms f = some (op, i) → Runs op i s (StoresByte i ea s.a [] s)) ∧
    (stxForms f = some (op, i) → Runs op i s (StoresByte i ea s.x [] s)) ∧
    (styForms f = some (op, i) → Runs op i s (StoresByte i ea s.y [] s))

/-- LDA, STA, CMP, ADC, SBC, AND, ORA and EOR, the instructions with an indirect form, are refused where their address
query is: with ZP_PTR_WRAP = refuse and the pointer at 0xFF (40_addressing.md R134, the spec's own decision D10; log
entries 14 and 15). -/
def Obligations.PointerRefusalRefusesTheInstruction : Prop :=
  ∀ (s : State) (f : Form) (op : Byte) (i : Instr) (r : Refusal), formAddress f s = .error r →
    (ldaForms f = some (op, i) ∨ staForms f = some (op, i) ∨ cmpForms f = some (op, i) ∨ adcForms f = some (op, i) ∨
      sbcForms f = some (op, i) ∨ andForms f = some (op, i) ∨ oraForms f = some (op, i) ∨ eorForms f = some (op, i)) →
    exec i s = .refused r

/-! ## Arithmetic and compare (42_arithmetic_compare.md) -/

/-- CMP, CPX, CPY in every form: C, Z and N from the difference, no register, no other flag. That N is bit 7 of the
difference mod 256 is the spec's own decision D14 (42_arithmetic_compare.md R155; log entry 15). -/
def Obligations.ComparesWriteThreeFlags : Prop :=
  ∀ (s : State) (f : Form) (m op : Byte) (i : Instr), formValue f s = .ok m →
    (cmpForms f = some (op, i) → Runs op i s (OnlyFlags i
      [(.c, decide (m.toNat ≤ s.a.toNat)), (.z, s.a == m), (.n, (s.a - m).getLsbD 7)] s)) ∧
    (cpxForms f = some (op, i) → Runs op i s (OnlyFlags i
      [(.c, decide (m.toNat ≤ s.x.toNat)), (.z, s.x == m), (.n, (s.x - m).getLsbD 7)] s)) ∧
    (cpyForms f = some (op, i) → Runs op i s (OnlyFlags i
      [(.c, decide (m.toNat ≤ s.y.toNat)), (.z, s.y == m), (.n, (s.y - m).getLsbD 7)] s))

/-- ADC in every form: the sum without carry-in, narrowed; C when it exceeds 255; Z and N from the new A; V untouched,
which is the spec's own decision D13 (42_arithmetic_compare.md R153; log entry 15). -/
def Obligations.AdcAddsWithoutCarryIn : Prop :=
  ∀ (s : State) (f : Form) (v op : Byte) (i : Instr), formValue f s = .ok v → adcForms f = some (op, i) →
    Runs op i s (fun t =>
      t.a.toNat = (s.a.toNat + v.toNat) % 256 ∧
      WritesA i t.a ((.c, decide (255 < s.a.toNat + v.toNat)) :: nz t.a) s t)

/-- SBC in every form: A - v - (1 - C), narrowed; C when it is not negative; V when the sign of A changes; Z and N from
the new A. That V is cleared when the signs agree, and what the sign of the difference is, is the spec's own decision D15;
with Carry clear the formula wins over the source's example, 90_conflicts.md C1 (log entry 15). -/
def Obligations.SbcSubtractsWithBorrow : Prop :=
  ∀ (s : State) (f : Form) (v op : Byte) (i : Instr), formValue f s = .ok v → sbcForms f = some (op, i) →
    Runs op i s (fun t =>
      let diff : Int := (s.a.toNat : Int) - v.toNat - (1 - (if s.flag .c then 1 else 0))
      (t.a.toNat : Int) = diff % 256 ∧
      WritesA i t.a ((.c, decide (0 ≤ diff)) :: (.v, s.a.getLsbD 7 != t.a.getLsbD 7) :: nz t.a) s t)

/-- The Decimal flag has no effect on ADC or SBC: run with D written either way, the outcomes are the same but for D itself
(42_arithmetic_compare.md R157). -/
def Obligations.DecimalHasNoEffect : Prop :=
  ∀ (s : State) (e : Bool) (f : Form) (op : Byte) (i : Instr),
    (adcForms f = some (op, i) ∨ sbcForms f = some (op, i)) →
    SameButDecimal e (exec i s) (exec i (s.setFlag .d e))

/-! ## Shifts and rotates (43_shift_rotate.md) -/

/-- ASL, LSR, ROL and ROR of the accumulator: the shifted or rotated A, Carry the outgoing bit, Z and N from the new A
(43_shift_rotate.md R160 to R164). -/
def Obligations.AccumulatorShifts : Prop :=
  ∀ (s : State),
    Runs 0x0A .aslAcc s (WritesA .aslAcc (s.a <<< 1) ((.c, s.a.getLsbD 7) :: nz (s.a <<< 1)) s) ∧
    Runs 0x4A .lsrAcc s (WritesA .lsrAcc (s.a >>> 1) ((.c, s.a.getLsbD 0) :: nz (s.a >>> 1)) s) ∧
    Runs 0x2A .rolAcc s (WritesA .rolAcc (s.a.rotateLeft 1) ((.c, s.a.getLsbD 7) :: nz (s.a.rotateLeft 1)) s) ∧
    Runs 0x6A .rorAcc s (WritesA .rorAcc (s.a.rotateRight 1) ((.c, s.a.getLsbD 0) :: nz (s.a.rotateRight 1)) s)

/-- ASL, LSR, ROL and ROR in the memory forms: the byte at the effective address shifted or rotated in place, and of the
flags Carry only, which is the spec's own decision D12 (43_shift_rotate.md R164; log entry 15). -/
def Obligations.MemoryShiftsWriteCarryOnly : Prop :=
  ∀ (s : State) (f : Form) (ea : Word) (v op : Byte) (i : Instr), Memory.wf s.mem = true → formAddress f s = .ok ea →
    v = s.readByte ea →
    (aslForms f = some (op, i) → Runs op i s (StoresByte i ea (v <<< 1) [(.c, v.getLsbD 7)] s)) ∧
    (lsrForms f = some (op, i) → Runs op i s (StoresByte i ea (v >>> 1) [(.c, v.getLsbD 0)] s)) ∧
    (rolForms f = some (op, i) → Runs op i s (StoresByte i ea (v.rotateLeft 1) [(.c, v.getLsbD 7)] s)) ∧
    (rorForms f = some (op, i) → Runs op i s (StoresByte i ea (v.rotateRight 1) [(.c, v.getLsbD 0)] s))

/-- The incoming Carry changes no outcome of ADC or of a shift or rotate, in any form (42_arithmetic_compare.md R153,
43_shift_rotate.md R160 to R164). -/
def Obligations.AdcAndShiftsNeverReadCarry : Prop :=
  ∀ (s : State) (e : Bool) (f : Form) (op : Byte) (i : Instr),
    (adcForms f = some (op, i) ∨ i = .aslAcc ∨ i = .lsrAcc ∨ i = .rolAcc ∨ i = .rorAcc ∨
      aslForms f = some (op, i) ∨ lsrForms f = some (op, i) ∨ rolForms f = some (op, i) ∨
      rorForms f = some (op, i)) →
    exec i (s.setFlag .c e) = exec i s

/-! ## Bit test and logic (44_bit_logic.md) -/

/-- BIT in every form: N and V copies of the memory byte's bits 7 and 6, Z from the AND with A; nothing else. -/
def Obligations.BitTestsMemory : Prop :=
  ∀ (s : State) (f : Form) (m op : Byte) (i : Instr), formValue f s = .ok m → bitForms f = some (op, i) →
    Runs op i s (OnlyFlags i [(.n, m.getLsbD 7), (.v, m.getLsbD 6), (.z, (m &&& s.a) == 0)] s)

/-- AND, ORA, EOR in every form: A takes the bitwise result, Z and N follow it. These COMPAT instructions are the spec's
from general knowledge of the 6502, not its source's (44_bit_logic.md R171 to R173; log entry 5). -/
def Obligations.LogicWritesA : Prop :=
  ∀ (s : State) (f : Form) (m op : Byte) (i : Instr), formValue f s = .ok m →
    (andForms f = some (op, i) → Runs op i s (WritesA i (s.a &&& m) (nz (s.a &&& m)) s)) ∧
    (oraForms f = some (op, i) → Runs op i s (WritesA i (s.a ||| m) (nz (s.a ||| m)) s)) ∧
    (eorForms f = some (op, i) → Runs op i s (WritesA i (s.a ^^^ m) (nz (s.a ^^^ m)) s))

/-! ## Increments and decrements (45_incdec.md) -/

/-- INC and DEC in every form: the byte at the effective address plus or minus one mod 256, and no flag at all
(45_incdec.md R180, R181). -/
def Obligations.MemoryIncDecWriteNoFlag : Prop :=
  ∀ (s : State) (f : Form) (ea : Word) (op : Byte) (i : Instr), Memory.wf s.mem = true → formAddress f s = .ok ea →
    (incForms f = some (op, i) →
      Runs op i s (StoresByte i ea (BitVec.ofNat 8 ((s.readByte ea).toNat + 1)) [] s)) ∧
    (decForms f = some (op, i) →
      Runs op i s (StoresByte i ea (BitVec.ofInt 8 ((s.readByte ea).toNat - 1)) [] s))

/-- INX, INY, DEX, DEY: the register plus or minus one mod 256, Z and N from it. -/
def Obligations.RegisterIncDec : Prop :=
  ∀ (s : State),
    Runs 0xE8 .inx s (fun t => t.x.toNat = (s.x.toNat + 1) % 256 ∧ WritesX .inx t.x (nz t.x) s t) ∧
    Runs 0xC8 .iny s (fun t => t.y.toNat = (s.y.toNat + 1) % 256 ∧ WritesY .iny t.y (nz t.y) s t) ∧
    Runs 0xCA .dex s (fun t => t.x.toNat = (s.x.toNat + 255) % 256 ∧ WritesX .dex t.x (nz t.x) s t) ∧
    Runs 0x88 .dey s (fun t => t.y.toNat = (s.y.toNat + 255) % 256 ∧ WritesY .dey t.y (nz t.y) s t)

/-! ## Transfers and the stack (46_transfer_stack.md) -/

/-- The six transfers: TXS alone writes no flag. These COMPAT instructions are the spec's from general knowledge of the
6502, not its source's (46_transfer_stack.md R190 to R195; log entry 5). -/
def Obligations.TransfersCopyRegisters : Prop :=
  ∀ (s : State),
    Runs 0xAA .tax s (WritesX .tax s.a (nz s.a) s) ∧
    Runs 0xA8 .tay s (WritesY .tay s.a (nz s.a) s) ∧
    Runs 0x8A .txa s (WritesA .txa s.x (nz s.x) s) ∧
    Runs 0x98 .tya s (WritesA .tya s.y (nz s.y) s) ∧
    Runs 0xBA .tsx s (WritesX .tsx s.sp (nz s.sp) s) ∧
    Runs 0x9A .txs s (fun t => t = { s with sp := s.x, pc := nextPC .txs s })

/-- PHA and PHP: A, or P as it stands, at 0x0100 + SP; SP less one mod 256; no flag; every other byte as before. That P is
pushed as it stands is the spec's own decision D17 (46_transfer_stack.md R198; log entry 15), the direction of the push
its decision D8 (log entry 5). -/
def Obligations.PushesStoreAtTheStackPointer : Prop :=
  ∀ (s : State), Memory.wf s.mem = true →
    Runs 0x48 .pha s (fun t => t = { s with mem := t.mem, sp := s.sp - 1, pc := nextPC .pha s } ∧
      OnlyByte (stackAddr s.sp) s.a s t) ∧
    Runs 0x08 .php s (fun t => t = { s with mem := t.mem, sp := s.sp - 1, pc := nextPC .php s } ∧
      OnlyByte (stackAddr s.sp) s.p s t)

/-- PLA and PLP: SP plus one mod 256, then the byte at 0x0100 + SP into A (Z and N follow) or into all of P. That P is
pulled whole is the spec's own decision D17 (46_transfer_stack.md R199; log entry 15), the direction of the pull its
decision D8 (log entry 5). -/
def Obligations.PullsLoadFromTheStack : Prop :=
  ∀ (s : State) (v : Byte), v = s.readByte (stackAddr (s.sp + 1)) →
    Runs 0x68 .pla s (fun t => t = { s with a := v, p := t.p, sp := s.sp + 1, pc := nextPC .pla s } ∧
      FlagsWritten (nz v) s t) ∧
    Runs 0x28 .plp s (fun t => t = { s with p := v, sp := s.sp + 1, pc := nextPC .plp s })

/-- N pushes followed by N pulls, N up to 256, return the bytes in reverse order and restore SP; no byte outside the page
0x0100 to 0x01FF changes (46_transfer_stack.md R200; that a push writes, then decrements is the spec's own decision D8,
log entry 5). -/
def Obligations.StackReturnsBytesInReverse : Prop :=
  ∀ (s : State) (bs : List Byte), Memory.wf s.mem = true → bs.length ≤ 256 →
    pullAll bs.length (pushAll s bs) = bs.reverse ∧ (dropAll bs.length (pushAll s bs)).sp = s.sp ∧
      ∀ b : Word, b.toNat < 0x0100 ∨ 0x01FF < b.toNat → (pushAll s bs).readByte b = s.readByte b

/-! ## Control flow (47_control_flow.md) -/

/-- The eight branches: taken, PC is the address of the next instruction plus the signed offset mod 65536; else the next
instruction; nothing else changes. The base of the offset is the spec's own decision D9, the eight conditions its decision
D34 from general knowledge of the 6502 (47_control_flow.md R205 to R213; log entry 5). -/
def Obligations.BranchesTestOneFlag : Prop :=
  ∀ (s : State) (off : Byte),
    let goesTo (taken : Bool) (t : State) : Prop :=
      t = { s with pc := if taken then BitVec.ofInt 16 (((s.pc.toNat + 2) % 65536 : Nat) + off.toInt) else s.pc + 2 }
    Runs 0x10 (.bpl off) s (goesTo (!s.flag .n)) ∧ Runs 0x30 (.bmi off) s (goesTo (s.flag .n)) ∧
    Runs 0x50 (.bvc off) s (goesTo (!s.flag .v)) ∧ Runs 0x70 (.bvs off) s (goesTo (s.flag .v)) ∧
    Runs 0x90 (.bcc off) s (goesTo (!s.flag .c)) ∧ Runs 0xB0 (.bcs off) s (goesTo (s.flag .c)) ∧
    Runs 0xD0 (.bne off) s (goesTo (!s.flag .z)) ∧ Runs 0xF0 (.beq off) s (goesTo (s.flag .z))

/-- JMP absolute and indirect: PC is the operand, or the little-endian word at the operand, its high byte from operand + 1
mod 65536; nothing else changes. The indirect form is the spec's from general knowledge of the 6502, and the place of its
high byte is its own decision D27 (47_control_flow.md R214, R215; log entry 5). -/
def Obligations.JumpsSetPC : Prop :=
  ∀ (s : State) (a : Word),
    Runs 0x4C (.jmpAbs a) s (fun t => t = { s with pc := a }) ∧
    Runs 0x6C (.jmpInd a) s (fun t => t = { s with pc := t.pc } ∧
      t.pc.toNat = (s.mem.read ((a.toNat + 1) % 65536)).toNat * 256 + (s.mem.read a.toNat).toNat)

/-- JSR: the address of its last byte pushed, high byte first, and PC the operand; every other byte and register as
before. The instruction is the spec's from general knowledge of the 6502, and what it pushes is its own decision D28
(47_control_flow.md R216; log entry 5). -/
def Obligations.JsrPushesTheReturnAddress : Prop :=
  ∀ (s : State) (a : Word), Memory.wf s.mem = true →
    Runs 0x20 (.jsr a) s (fun t =>
      t = { s with mem := t.mem, sp := s.sp - 2, pc := a } ∧
      t.readByte (stackAddr s.sp) = hiByte (s.pc + 2) ∧ t.readByte (stackAddr (s.sp - 1)) = loByte (s.pc + 2) ∧
      ∀ b, b ≠ stackAddr s.sp → b ≠ stackAddr (s.sp - 1) → t.readByte b = s.readByte b)

/-- RTS: PC is the little-endian word pulled, plus one mod 65536; SP two higher; nothing else changes. The instruction is
the spec's from general knowledge of the 6502, and its convention is its own decision D28 (47_control_flow.md R217; log
entry 5). -/
def Obligations.RtsPullsTheReturnAddress : Prop :=
  ∀ (s : State),
    Runs 0x60 .rts s (fun t =>
      t = { s with sp := s.sp + 2, pc := t.pc } ∧
      t.pc.toNat = ((s.readByte (stackAddr (s.sp + 2))).toNat * 256 + (s.readByte (stackAddr (s.sp + 1))).toNat + 1) % 65536)

/-- A subroutine that leaves the two stacked bytes and SP alone returns to the instruction after the JSR
(47_control_flow.md R216, R217, the spec's own decision D28; log entry 5). -/
def Obligations.RtsReturnsBehindJsr : Prop :=
  ∀ (s u t : State) (a : Word), Memory.wf s.mem = true → exec (.jsr a) s = .next t → u.sp = t.sp →
    u.readByte (stackAddr s.sp) = t.readByte (stackAddr s.sp) →
    u.readByte (stackAddr (s.sp - 1)) = t.readByte (stackAddr (s.sp - 1)) →
    exec .rts u = .next { u with sp := s.sp, pc := nextPC (.jsr a) s }

/-! ## Flags and NOP (48_flag_nop.md) -/

/-- The seven single-flag instructions write one bit of P each; NOP only advances PC. These COMPAT instructions are the
spec's from general knowledge of the 6502, not its source's (48_flag_nop.md R225 to R232; log entry 5). -/
def Obligations.FlagInstructionsWriteOneBit : Prop :=
  ∀ (s : State),
    Runs 0x18 .clc s (OnlyFlags .clc [(.c, false)] s) ∧ Runs 0x38 .sec s (OnlyFlags .sec [(.c, true)] s) ∧
    Runs 0x58 .cli s (OnlyFlags .cli [(.i, false)] s) ∧ Runs 0x78 .sei s (OnlyFlags .sei [(.i, true)] s) ∧
    Runs 0xB8 .clv s (OnlyFlags .clv [(.v, false)] s) ∧ Runs 0xD8 .cld s (OnlyFlags .cld [(.d, false)] s) ∧
    Runs 0xF8 .sed s (OnlyFlags .sed [(.d, true)] s) ∧
    Runs 0xEA .nop s (fun t => t = { s with pc := nextPC .nop s })

/-! ## System and custom instructions (49_system_custom.md) -/

/-- BRK and ERR halt the core for good with the address of their opcode byte; no register but PC, no flag and no memory
byte changes; each is one byte wide. That nothing else changes, and that BRK is one byte wide, is the spec's own decision
D18 (49_system_custom.md R235, R236; log entry 15). PC is unspecified, a free value: log entry 8. -/
def Obligations.BrkAndErrHalt : Prop :=
  ∀ (s : State),
    (encode s.cfg .brk).length = 1 ∧ (encode s.cfg .err).length = 1 ∧
    Runs 0x00 .brk s (fun t => t = { s with run := .halted (.brk s.pc), pc := t.pc, freeIndex := t.freeIndex }) ∧
    Runs s.cfg.opcErr .err s (fun t =>
      t = { s with run := .halted (.softwareError s.pc), pc := t.pc, freeIndex := t.freeIndex })

/-- RTI: P, then PC low, then PC high from the stack, SP three higher mod 256, the in-progress mark cleared, whether or
not it was set. That RTI runs with the mark clear is the spec's own decision D37 (49_system_custom.md R237; log entry 15).
-/
def Obligations.RtiRestores : Prop :=
  ∀ (s : State),
    Runs 0x40 .rti s (fun t =>
      t = { s with
            p := s.readByte (stackAddr (s.sp + 1))
            pc := wordOf (s.readByte (stackAddr (s.sp + 2))) (s.readByte (stackAddr (s.sp + 3)))
            sp := s.sp + 3
            inProgress := false })

/-- CBL and CBS within the spec's bounds: the destination ends up holding the source's OLD bytes, whatever the overlap;
every other byte, every register and every flag is as before (49_system_custom.md R238 to R240). Which way each copies,
the cache offset 0 and the bounds are the spec's own decision D19 (log entry 15). -/
def Obligations.BlockCopiesAreOverlapSafe : Prop :=
  ∀ (s : State) (a : Word) (len : Byte), Memory.wf s.mem = true → len.toNat ≤ s.cfg.cacheSize →
    a.toNat + len.toNat ≤ 65536 → s.cfg.cacheStart.toNat + len.toNat ≤ 65536 →
    let copied (i : Instr) (src dst : Word) (t : State) : Prop :=
      t = { s with mem := t.mem, pc := nextPC i s } ∧
      (∀ k, k < len.toNat → t.mem.read (dst.toNat + k) = s.mem.read (src.toNat + k)) ∧
      (∀ b : Word, b.toNat < dst.toNat ∨ dst.toNat + len.toNat ≤ b.toNat → t.readByte b = s.readByte b)
    Runs s.cfg.opcCbl (.cbl a len) s (copied (.cbl a len) a s.cfg.cacheStart) ∧
    Runs s.cfg.opcCbs (.cbs a len) s (copied (.cbs a len) s.cfg.cacheStart a)

/-- CBL and CBS outside the bounds, which are the spec's own decision D19, have no meaning: refused by name
(49_system_custom.md R240; log entries 14, 15). -/
def Obligations.BlockCopiesOutOfBoundsRefuse : Prop :=
  ∀ (s : State) (a : Word) (len : Byte),
    (s.cfg.cacheSize < len.toNat →
      exec (.cbl a len) s = .refused .blockLongerThanCache ∧ exec (.cbs a len) s = .refused .blockLongerThanCache) ∧
    (len.toNat ≤ s.cfg.cacheSize → 65536 < a.toNat + len.toNat ∨ 65536 < s.cfg.cacheStart.toNat + len.toNat →
      exec (.cbl a len) s = .refused .blockPastEnd ∧ exec (.cbs a len) s = .refused .blockPastEnd)

/-! ## What no instruction does -/

/-- The flags outside an instruction's row of the table of 10_state.md R39 are unchanged. That the memory shifts leave N and
Z is the spec's own decision D12, and that ADC leaves V its decision D13 (log entry 15). -/
def Obligations.FlagsOutsideTheRowAreUnchanged : Prop :=
  ∀ (i : Instr) (s t : State) (f : Flag), exec i s = .next t → f ∉ flagRow i → t.flag f = s.flag f

/-- A, X, Y and SP are written only by the instructions 10_state.md R21 to R24 name, and memory only by the storing ones. -/
def Obligations.RegistersHaveTheirWritersOnly : Prop :=
  ∀ (i : Instr) (s t : State), exec i s = .next t →
    (writesA i = false → t.a = s.a) ∧ (writesX i = false → t.x = s.x) ∧ (writesY i = false → t.y = s.y) ∧
    (writesSP i = false → t.sp = s.sp) ∧ (storesMemory i = false → t.mem = s.mem)

/-- No instruction touches the controller's state, but that RTI clears the in-progress mark and BRK and ERR halt
(49_system_custom.md R241, 10_state.md R41 to R44). The inputs, the key queue, the emitted annotations and the parameters
stand in State by the model's choice (log entries 1, 11, 17). -/
def Obligations.InstructionsLeaveTheController : Prop :=
  ∀ (i : Instr) (s t : State), exec i s = .next t →
    t.justResumed = s.justResumed ∧ t.intervalCount = s.intervalCount ∧ t.intervalSteps = s.intervalSteps ∧
    t.serviceSteps = s.serviceSteps ∧ t.keyQueue = s.keyQueue ∧ t.inbox = s.inbox ∧ t.emitted = s.emitted ∧
    t.cfg = s.cfg ∧ (i ≠ .rti → t.inProgress = s.inProgress) ∧ (i ≠ .brk → i ≠ .err → t.run = s.run)

/-- No instruction faults, and an instruction is refused exactly at the spec's refuse points: an INDX or INDY form whose
pointer's low byte is at 0xFF, with ZP_PTR_WRAP = refuse (40_addressing.md R134, R135), and CBL and CBS with a block
longer than the cache region or, if not longer, past 0xFFFF at either end of the copy (49_system_custom.md R240). The
refusal of the pointer at 0xFF is the spec's own decision D10, the bounds of the block copies its decision D19 (log entry
15); the name of each refusal is the model's choice (log entry 14). -/
def Obligations.InstructionsStopOnlyAtRefusePoints : Prop :=
  ∀ (i : Instr) (s : State),
    (∀ e, exec i s ≠ .fault e) ∧
    ∀ r, exec i s = .refused r ↔
      (r = .zeroPagePointerAtFF ∧ s.cfg.zpPtrWrap = .refuse ∧ indirectPointer s i = some 0xFF) ∨
      ∃ a len, (i = .cbl a len ∨ i = .cbs a len) ∧
        ((r = .blockLongerThanCache ∧ s.cfg.cacheSize < len.toNat) ∨
          (r = .blockPastEnd ∧ len.toNat ≤ s.cfg.cacheSize ∧
            (65536 < a.toNat + len.toNat ∨ 65536 < s.cfg.cacheStart.toNat + len.toNat)))

/-! ## The interrupt (60_exceptions.md R264 to R270) -/

/-- At the end of an interval with I clear the interrupt is entered: the drain, then the vector read after it, PC high, PC
low and P pushed, PC the vector, the mark set, Servicing; no flag and no other register changes, every other byte is as
the drain left it. That entry changes no flag and pushes P unmodified is the spec's own decision D16 (60_exceptions.md
R266; log entry 15); the drain's bytes are free values (log entry 9). -/
def Obligations.InterruptEntryAtIntervalEnd : Prop :=
  ∀ (s : State) (k : Nat), Memory.wf s.mem = true → NoInputTaken s → s.run = .running → s.intervalSteps = some k →
    s.cfg.stepQuota ≤ k → s.flag .i = false →
    ∃ t, step s = .next t ∧
      t = { s with
            run := .servicing, inProgress := true, sp := s.sp - 3, pc := t.pc, mem := t.mem, intervalSteps := none,
            serviceSteps := 0, keyQueue := [], freeIndex := t.freeIndex } ∧
      t.pc = wordOf (s.keyboardDrain.readByte 0xFFFE) (s.keyboardDrain.readByte 0xFFFF) ∧
      t.readByte (stackAddr s.sp) = hiByte s.pc ∧ t.readByte (stackAddr (s.sp - 1)) = loByte s.pc ∧
      t.readByte (stackAddr (s.sp - 2)) = s.p ∧
      ∀ b, b ≠ stackAddr s.sp → b ≠ stackAddr (s.sp - 1) → b ≠ stackAddr (s.sp - 2) →
        t.readByte b = s.keyboardDrain.readByte b

/-- With I set at the end of an interval nothing is entered, pushed or latched: the interval is over and that is all. -/
def Obligations.MaskedInterruptIsDropped : Prop :=
  ∀ (s : State) (k : Nat), NoInputTaken s → s.run = .running → s.intervalSteps = some k → s.cfg.stepQuota ≤ k →
    s.flag .i = true → step s = .next { s with intervalSteps := none }

/-- The keyboard drain: nothing with an empty queue; else the queue is emptied and only the count cell and the data region
may change, their new bytes free values (log entry 9). That an empty queue changes nothing, and which cells a drain may
write, is the spec's own decision D23 (60_exceptions.md R268; log entry 15). -/
def Obligations.KeyboardDrainIsConfined : Prop :=
  ∀ (s : State),
    (s.keyQueue = [] → s.keyboardDrain = s) ∧
    s.keyboardDrain = { s with mem := s.keyboardDrain.mem, keyQueue := [], freeIndex := s.keyboardDrain.freeIndex } ∧
    (s.cfg.keyboardFits = true → ∀ b : Word, b ≠ s.cfg.kbdCountAddr →
      (b.toNat < s.cfg.kbdDataStart.toNat ∨ s.cfg.kbdDataStart.toNat + s.cfg.kbdCapacity ≤ b.toNat) →
      s.keyboardDrain.readByte b = s.readByte b)

/-- A handler that leaves SP and the three stacked bytes alone until its RTI: the program resumes with the exact pre-
interrupt PC, P and SP, and the mark is clear (60_exceptions.md R269; that entry pushes P unmodified is the spec's own
decision D16, log entry 15). -/
def Obligations.RtiUndoesInterruptEntry : Prop :=
  ∀ (s u : State), Memory.wf s.mem = true → u.sp = s.interruptEntry.sp →
    (∀ j : Byte, j = s.sp ∨ j = s.sp - 1 ∨ j = s.sp - 2 →
      u.readByte (stackAddr j) = s.interruptEntry.readByte (stackAddr j)) →
    exec .rti u = .next { u with p := s.p, pc := s.pc, sp := s.sp, inProgress := false }

/-- The service loop ends at the boundary where the mark is clear: Running again, between intervals. -/
def Obligations.ServiceLoopEnds : Prop :=
  ∀ (s : State), NoInputTaken s → s.run = .servicing → s.inProgress = false →
    step s = .next { s with run := .running, serviceSteps := 0 }

/-- The budget spent with the mark still set: Halted with RunawayInterrupt, everything else as the handler's last
instruction left it (60_exceptions.md R255). That the budget is spent after exactly INT_STEP_BUDGET steps is the spec's
own decision D20 (60_exceptions.md R267; log entries 13, 15). -/
def Obligations.RunawayInterruptHalts : Prop :=
  ∀ (s : State), NoInputTaken s → s.run = .servicing → s.inProgress = true → s.cfg.intStepBudget ≤ s.serviceSteps →
    step s = .next { s with run := .halted .runawayInterrupt }

/-- A suspend point met in the service loop has no meaning, which is the spec's own decision D21: refused by name
(60_exceptions.md R272; log entry 14). -/
def Obligations.SuspendPointInServiceIsRefused : Prop :=
  ∀ (s : State), NoInputTaken s → s.run = .servicing → s.inProgress = true → s.serviceSteps < s.cfg.intStepBudget →
    s.justResumed = false → Config.suspendAt s.cfg s.pc = true → step s = .refused .suspendWhileServicing

/-! ## Breakpoints and the host (60_exceptions.md R259 to R263, R273 to R277) -/

/-- A suspend point met in an interval parks the machine before the instruction, after the annotations of its address are
emitted (60_exceptions.md R260, R262, R271): nothing changes but the run state, the rest of the interval, which is
dropped, and these annotations. -/
def Obligations.SuspendPointParks : Prop :=
  ∀ (s : State) (k : Nat), NoInputTaken s → s.run = .running → s.intervalSteps = some k → k < s.cfg.stepQuota →
    s.justResumed = false → Config.suspendAt s.cfg s.pc = true →
    step s = .next { s with run := .suspended, intervalSteps := none, emitted := s.consultDebug.emitted }

/-- `resume` starts an interval with a full quota and the guard set, which is the spec's own decision D31
(60_exceptions.md R275; log entry 15), and the next step executes exactly the instruction at PC, flagged or not, and
clears the guard. An instruction that halts or is refused is left out. -/
def Obligations.ResumeExecutesTheFlaggedInstruction : Prop :=
  ∀ (s u : State) (i : Instr) (rest : List Byte), s.run = .suspended → s.inbox = [.resume] →
    s.intervalCount < s.cfg.maxIntervals → 1 ≤ s.cfg.stepQuota → decode s.cfg s.fetchBytes = .ok (i, rest) →
    let r : State := { s with
      run := .running, justResumed := true, inbox := [], intervalCount := s.intervalCount + 1, intervalSteps := some 0 }
    exec i r = .next u → u.isHalted = false →
    step s = .next r ∧ step r = .next { u with justResumed := false, intervalSteps := some 1 }

/-- Where the host has control, `go/start` acts in Idle only, `suspend` and `drive` in Running only, `resume` in Suspended
only (a resume at the interval limit goes to Halted in the one step: log entry 18); elsewhere the input is taken and does
nothing else (log entry 23). Inside an interval or the service loop they wait: the step is the controller's. A key joins
the keyboard queue at any step (log entry 11). That `suspend` acts only between intervals, that `go/start` acts in Idle
only, and what `resume` schedules are the spec's own decisions D22, D36 and D31, the test of the limit its decision D29
(log entries 15 and 22). -/
def Obligations.HostInputsActInTheirState : Prop :=
  ∀ (s : State) (rest : List Input),
    let s1 : State := { s with inbox := rest }
    let began (u : State) : State :=
      if u.intervalCount < u.cfg.maxIntervals then { u with intervalCount := u.intervalCount + 1, intervalSteps := some 0 }
      else { u with run := .halted .intervalLimit }
    (s.hostHasControl = true → s.inbox = .go :: rest →
      step s = .next (if s.run = .idle then { s1 with run := .running } else s1)) ∧
    (s.hostHasControl = true → s.inbox = .suspend :: rest →
      step s = .next (if s.run = .running then { s1 with run := .suspended } else s1)) ∧
    (s.hostHasControl = true → s.inbox = .resume :: rest →
      step s = .next (if s.run = .suspended then began { s1 with run := .running, justResumed := true } else s1)) ∧
    (s.hostHasControl = true → s.inbox = .drive :: rest →
      step s = .next (if s.run = .running then began s1 else s1)) ∧
    (∀ j, s.hostHasControl = false → s.inbox = j :: rest → j = .go ∨ j = .suspend ∨ j = .resume ∨ j = .drive →
      step s = controllerAction s) ∧
    (∀ code, s.inbox = .key code :: rest → step s = .next { s1 with keyQueue := s.keyQueue ++ [code] })

/-- Between intervals the next one starts with a full quota and is counted, or, when MAX_INTERVALS have run, the core
halts with IntervalLimit and nothing else changes (60_exceptions.md R256, R273, R274). That the count is tested against
the limit at the start of an interval, before it is raised, so that exactly MAX_INTERVALS intervals run, is the spec's own
decision D29 (log entries 15 and 22). -/
def Obligations.IntervalsStartUpToTheLimit : Prop :=
  ∀ (s : State), NoInputTaken s → s.run = .running → s.intervalSteps = none →
    (s.intervalCount < s.cfg.maxIntervals →
      step s = .next { s with intervalCount := s.intervalCount + 1, intervalSteps := some 0 }) ∧
    (s.cfg.maxIntervals ≤ s.intervalCount → step s = .next { s with run := .halted .intervalLimit })

/-- The moves of the run state are those of the table of 60_exceptions.md R259 and no others, each with its cause: reset;
go/start; a suspend point in an interval, or the host's suspend between intervals; resume (at the interval limit it passes
through Running to Halted in one step: log entry 18); the end of an interval's steps with I clear; the mark clear in the
service loop; the budget spent; the interval limit reached between intervals; a fatal event of the opcode at PC, in an
interval or the service loop, with the reason of that opcode. The state Idle and `go/start`, the host's suspend between
intervals, what `resume` does, the boundaries of the budget and of the limit, BRK and ERR as two reasons and the refusal
of a suspend point in the service loop are the spec's own decisions D36, D22, D31, D20, D29, D18 and D21 (log entries 14,
15, 22). -/
def Obligations.RunStateMovesByTheTable : Prop :=
  ∀ (s t : State), step s = .next t →
    t.run = s.run ∨
    (t.run = .idle ∧ ∃ rest, s.inbox = .reset :: rest) ∨
    (s.run = .idle ∧ t.run = .running ∧ ∃ rest, s.inbox = .go :: rest) ∨
    (s.run = .running ∧ t.run = .suspended ∧
      ((∃ k, s.intervalSteps = some k ∧ k < s.cfg.stepQuota ∧ s.suspendHere = true) ∨
        (s.intervalSteps = none ∧ ∃ rest, s.inbox = .suspend :: rest))) ∨
    (s.run = .suspended ∧ (∃ rest, s.inbox = .resume :: rest) ∧
      ((t.run = .running ∧ s.intervalCount < s.cfg.maxIntervals) ∨
        (t.run = .halted .intervalLimit ∧ s.cfg.maxIntervals ≤ s.intervalCount))) ∨
    (s.run = .running ∧ t.run = .servicing ∧ s.flag .i = false ∧ ∃ k, s.intervalSteps = some k ∧ s.cfg.stepQuota ≤ k) ∨
    (s.run = .servicing ∧ t.run = .running ∧ s.inProgress = false) ∨
    (s.run = .servicing ∧ t.run = .halted .runawayInterrupt ∧ s.inProgress = true ∧
      s.cfg.intStepBudget ≤ s.serviceSteps) ∨
    (s.run = .running ∧ t.run = .halted .intervalLimit ∧ s.intervalSteps = none ∧
      s.cfg.maxIntervals ≤ s.intervalCount) ∨
    (((∃ k, InInterval s k) ∨ InService s) ∧ ∃ r, t.run = .halted r ∧ FatalOpcode s r)

/-- Halted is for good: a step with no input faults, and any step that answers a next state keeps the reason, every register
and memory, unless the host's reset is taken (60_exceptions.md R251). -/
def Obligations.HaltedIsForGood : Prop :=
  ∀ (s : State) (r : HaltReason), s.run = .halted r →
    (s.inbox = [] → step s = .fault (.halted r)) ∧
    ∀ t, step s = .next t →
      (∃ rest, s.inbox = .reset :: rest) ∨ t = { s with inbox := t.inbox, keyQueue := t.keyQueue }

/-- Every run of the core ends: from any state of the invariant that is Running or Servicing, with no input to come, at most
(MAX_INTERVALS + 1) * (STEP_QUOTA + INT_STEP_BUDGET + 3) steps reach Suspended or Halted, unless one of them is refused
(60_exceptions.md R274). The boundaries of the budget and of the limit are the spec's own decisions D20 and D29 (log entries
15 and 22); the bound counts the model's steps (log entry 10). -/
def Obligations.EveryRunEnds : Prop :=
  ∀ (s : State), s.Inv → s.inbox = [] → (s.run = .running ∨ s.run = .servicing) →
    ∃ n, n ≤ (s.cfg.maxIntervals + 1) * (s.cfg.stepQuota + s.cfg.intStepBudget + 3) ∧
      ((∃ t, core.run n s = .next t ∧ t.parkedOrEnded = true) ∨ ∃ r, core.run n s = .refused r)
end

