-- ==== Sys2Proof/Laws/Decode.lean ====
section
/-! SUPPORT. Byte order and the dispatch table. -/

namespace Sys2Proof

theorem wordOf_toNat (lo hi : Byte) : (wordOf lo hi).toNat = hi.toNat * 256 + lo.toNat := by
  have h1 := lo.isLt
  have h2 := hi.isLt
  rw [wordOf, BitVec.toNat_ofNat]
  omega

@[simp] theorem wordOf_lo_hi (w : Word) : wordOf (loByte w) (hiByte w) = w := by
  have h := w.isLt
  apply BitVec.eq_of_toNat_eq
  rw [wordOf_toNat, loByte, hiByte, BitVec.toNat_ofNat, BitVec.toNat_ofNat]
  omega

@[simp] theorem loByte_wordOf (lo hi : Byte) : loByte (wordOf lo hi) = lo := by
  have h1 := lo.isLt
  apply BitVec.eq_of_toNat_eq
  rw [loByte, BitVec.toNat_ofNat, wordOf_toNat]
  omega

@[simp] theorem hiByte_wordOf (lo hi : Byte) : hiByte (wordOf lo hi) = hi := by
  have h1 := lo.isLt
  have h2 := hi.isLt
  apply BitVec.eq_of_toNat_eq
  rw [hiByte, BitVec.toNat_ofNat, wordOf_toNat]
  omega

/-- The table's opcode bytes are the documented ones, each once, in rising order (30_encoding.md R98). -/
theorem standardRows_opcodes : standardRows.map (fun r => r.opcode) = documentedOpcodes := by decide +kernel

/-- No two rows of the table share an opcode byte (30_encoding.md R94). -/
theorem standardRows_opcodes_rising :
    (standardRows.map (fun r => r.opcode.toNat)).Pairwise (fun a b => a < b) := by decide +kernel

/-- A byte that is not documented has no row. -/
theorem findRow_none (op : Byte) (rows : List Row) (h : op ∉ rows.map (fun r => r.opcode)) : findRow op rows = none := by
  induction rows with
  | nil => rfl
  | cons r rest ih =>
    simp only [List.map_cons, List.mem_cons, not_or] at h
    rw [findRow, if_neg (Ne.symm h.1)]
    exact ih h.2

/-- A found row stands in the list, under the byte looked up. -/
theorem findRow_some (op : Byte) (rows : List Row) (r : Row) (h : findRow op rows = some r) :
    r ∈ rows ∧ r.opcode = op := by
  induction rows with
  | nil => simp [findRow] at h
  | cons d rest ih =>
    rw [findRow] at h
    split at h
    · rename_i heq
      injection h with h
      subst h
      exact ⟨by simp, heq⟩
    · obtain ⟨h1, h2⟩ := ih h
      exact ⟨by simp [h1], h2⟩

/-- What well-formed parameters say of the three custom opcodes (00_scope.md R7, 30_encoding.md R99). -/
theorem Config.wf_opcodes (c : Config) (h : c.wf = true) :
    c.opcCbl ≠ c.opcCbs ∧ c.opcCbl ≠ c.opcErr ∧ c.opcCbs ≠ c.opcErr ∧
      c.opcCbl ∉ documentedOpcodes ∧ c.opcCbs ∉ documentedOpcodes ∧ c.opcErr ∉ documentedOpcodes := by
  simp only [Config.wf, Config.customDistinct, Config.customUndocumented, Bool.and_eq_true, bne_iff_ne, ne_eq,
    Bool.not_eq_true', List.contains_eq_mem, decide_eq_false_iff_not] at h
  tauto

/-- With well-formed parameters a documented byte is looked up in the standard table. -/
theorem dispatch_documented (c : Config) (h : c.wf = true) (op : Byte) (ho : op ∈ documentedOpcodes) :
    dispatch c op = standardEntry c op := by
  obtain ⟨-, -, -, h1, h2, h3⟩ := Config.wf_opcodes c h
  have n1 : op ≠ c.opcCbl := fun e => h1 (e ▸ ho)
  have n2 : op ≠ c.opcCbs := fun e => h2 (e ▸ ho)
  have n3 : op ≠ c.opcErr := fun e => h3 (e ▸ ho)
  rw [dispatch, if_neg n1, if_neg n2, if_neg n3]

end Sys2Proof
end

