-- ==== Sys2Proof/Laws/Flags.lean ====
section
/-! SUPPORT. What writing a flag does to every flag, and what each flag computation leaves in each flag. -/

namespace Sys2Proof.Machine

/-- A written flag reads as written, every other flag as before (00_scope.md R10). -/
theorem getFlag_putFlag (f g : Flag) (e : Bool) (p : Byte) :
    getFlag g (putFlag f e p) = if g = f then e else getFlag g p := by
  cases f <;> cases g <;> cases e <;> simp [getFlag, putFlag, Flag.bit, Flag.mask]

@[simp] theorem getFlag_putFlag_same (f : Flag) (e : Bool) (p : Byte) : getFlag f (putFlag f e p) = e := by
  simp [getFlag_putFlag]

theorem getFlag_putFlag_other {f g : Flag} (e : Bool) (p : Byte) (h : g ≠ f) :
    getFlag g (putFlag f e p) = getFlag g p := by
  simp [getFlag_putFlag, h]

/-- Two status bytes with the same eight flags are equal. -/
theorem eq_of_getFlag (p q : Byte) (h : ∀ f, getFlag f p = getFlag f q) : p = q := by
  apply BitVec.eq_of_getLsbD_eq
  intro i hi
  interval_cases i
  · exact h .c
  · exact h .z
  · exact h .i
  · exact h .d
  · exact h .b
  · exact h .u
  · exact h .v
  · exact h .n

/-- `SetA`, `SetX`, `SetY` write Z and N and no other flag (00_scope.md R11). -/
theorem getFlag_putNZ (v p : Byte) (g : Flag) :
    getFlag g (putNZ v p) = if g = .n then v.getLsbD 7 else if g = .z then v == 0 else getFlag g p := by
  cases g <;> simp [putNZ, getFlag_putFlag]

/-- Compare writes C, Z and N and no other flag (42_arithmetic_compare.md R155). -/
theorem getFlag_compareFlags (r m p : Byte) (g : Flag) :
    getFlag g (compareFlags r m p) =
      if g = .n then (r - m).getLsbD 7
      else if g = .z then r == m
      else if g = .c then decide (m.toNat ≤ r.toNat)
      else getFlag g p := by
  have hr := r.isLt
  have hm := m.isLt
  have hd : BitVec.ofInt 8 ((r.toNat : Int) - (m.toNat : Int)) = r - m := by
    apply BitVec.eq_of_toNat_eq
    rw [BitVec.toNat_ofInt, BitVec.toNat_sub]
    omega
  have hz : (((r.toNat : Int) - (m.toNat : Int)) % 256 == 0) = (r == m) := by
    rw [Bool.eq_iff_iff]
    simp only [beq_iff_eq]
    constructor
    · intro h
      apply BitVec.eq_of_toNat_eq
      omega
    · intro h
      rw [h]
      omega
  cases g <;> simp [compareFlags, getFlag_putFlag, hd, hz]

/-- BIT writes N, V and Z and no other flag (44_bit_logic.md R170). -/
theorem getFlag_bitFlags (m a p : Byte) (g : Flag) :
    getFlag g (bitFlags m a p) =
      if g = .n then m.getLsbD 7
      else if g = .v then m.getLsbD 6
      else if g = .z then (m &&& a) == 0
      else getFlag g p := by
  cases g <;> simp [bitFlags, getFlag_putFlag]

end Sys2Proof.Machine
end

