-- ==== Sys2Proof/Laws/Memory.lean ====
section
/-! SUPPORT. The laws of memory: read after write, the canonical form and its uniqueness. -/

namespace Sys2Proof.Machine

theorem Memory.read_nil (a : Nat) : Memory.read [] a = Memory.unlisted := rfl

/-- The canonical form said over the list's structure. -/
theorem Memory.wf_cons (c : Host.Cell) (m : Memory) :
    Memory.wf (c :: m) = true ↔
      c.1 < 65536 ∧ c.2 ≠ Memory.unlisted ∧ (∀ d ∈ m, c.1 < d.1) ∧ Memory.wf m = true := by
  induction m generalizing c with
  | nil => simp [Memory.wf]
  | cons d rest ih =>
    have h := ih d
    simp only [Memory.wf, Bool.and_eq_true, decide_eq_true_eq, bne_iff_ne, ne_eq, List.mem_cons] at h ⊢
    constructor
    · rintro ⟨⟨hcd, hne⟩, hw⟩
      obtain ⟨hd, -, hall, -⟩ := h.mp hw
      refine ⟨by omega, hne, ?_, hw⟩
      rintro e (rfl | he)
      · exact hcd
      · exact lt_trans hcd (hall e he)
    · rintro ⟨-, hne, hall, hw⟩
      exact ⟨⟨hall d (Or.inl rfl), hne⟩, hw⟩

/-- An address below every listed one reads as unlisted. -/
theorem Memory.read_of_lt (m : Memory) (a : Nat) (h : ∀ d ∈ m, a < d.1) : Memory.read m a = Memory.unlisted := by
  induction m with
  | nil => rfl
  | cons c rest ih =>
    have hc : a < c.1 := h c (by simp)
    simp only [Memory.read, if_neg (by omega : ¬ c.1 = a)]
    exact ih (fun d hd => h d (by simp [hd]))

/-- A write is read back (20_memory.md R61). -/
theorem Memory.read_write_same (m : Memory) (a : Nat) (v : Byte) (hm : Memory.wf m = true) :
    Memory.read (Memory.write m a v) a = v := by
  induction m with
  | nil => by_cases hv : v = Memory.unlisted <;> simp [Memory.write, Memory.read, hv]
  | cons c rest ih =>
    obtain ⟨-, -, hall, hw⟩ := (Memory.wf_cons c rest).mp hm
    simp only [Memory.write]
    split
    · rename_i hlt
      split
      · rename_i hv
        rw [hv]
        exact Memory.read_of_lt _ _ (by
          intro d hd
          rcases List.mem_cons.mp hd with rfl | hd
          · exact hlt
          · exact lt_trans hlt (hall d hd))
      · simp [Memory.read]
    · split
      · rename_i _ heq
        subst heq
        split
        · rename_i hv
          rw [hv]
          exact Memory.read_of_lt _ _ hall
        · simp [Memory.read]
      · rename_i _ hne
        simp only [Memory.read, if_neg (Ne.symm hne)]
        exact ih hw

/-- A write leaves every other address alone (20_memory.md R61), in any memory. -/
theorem Memory.read_write_other (m : Memory) (a b : Nat) (v : Byte) (hab : b ≠ a) :
    Memory.read (Memory.write m a v) b = Memory.read m b := by
  have hba : ¬ a = b := fun h => hab h.symm
  induction m with
  | nil => by_cases hv : v = Memory.unlisted <;> simp [Memory.write, Memory.read, hv, hba]
  | cons c rest ih =>
    simp only [Memory.write]
    split
    · split
      · rfl
      · simp [Memory.read, hba]
    · split
      · rename_i _ heq
        subst heq
        split <;> simp [Memory.read, hba]
      · simp only [Memory.read, ih]

/-- Every entry of a written memory is the written cell or an old one. -/
theorem Memory.mem_write {m : Memory} {a : Nat} {v : Byte} {d : Host.Cell} (h : d ∈ Memory.write m a v) :
    d = (a, v) ∨ d ∈ m := by
  induction m with
  | nil =>
    simp only [Memory.write] at h
    split at h <;> simp_all
  | cons c rest ih =>
    simp only [Memory.write] at h
    split at h
    · split at h <;> simp_all
    · split at h
      · split at h <;> simp_all
        rcases h with h | h <;> simp [h]
      · rcases List.mem_cons.mp h with h | h
        · simp [h]
        · rcases ih h with h | h <;> simp [h]

/-- A write keeps the canonical form. -/
theorem Memory.write_wf (m : Memory) (a : Nat) (v : Byte) (ha : a < 65536) (hm : Memory.wf m = true) :
    Memory.wf (Memory.write m a v) = true := by
  induction m with
  | nil =>
    simp only [Memory.write]
    split
    · rfl
    · rename_i hv
      simp [Memory.wf, ha, hv]
  | cons c rest ih =>
    have hcr := (Memory.wf_cons c rest).mp hm
    obtain ⟨hc, hne, hall, hw⟩ := hcr
    simp only [Memory.write]
    split
    · rename_i hlt
      split
      · exact hm
      · rename_i hv
        refine (Memory.wf_cons _ _).mpr ⟨ha, hv, ?_, hm⟩
        intro d hd
        rcases List.mem_cons.mp hd with rfl | hd
        · exact hlt
        · exact lt_trans hlt (hall d hd)
    · split
      · rename_i _ heq
        subst heq
        split
        · exact hw
        · rename_i hv
          exact (Memory.wf_cons _ _).mpr ⟨ha, hv, hall, hw⟩
      · rename_i hnlt hneq
        refine (Memory.wf_cons _ _).mpr ⟨hc, hne, ?_, ih hw⟩
        intro d hd
        rcases Memory.mem_write hd with rfl | hd
        · exact lt_of_le_of_ne (not_lt.mp hnlt) (fun h => hneq h.symm)
        · exact hall d hd

/-- The drain's writes keep the canonical form. -/
theorem fillFree_wf (cells : List Word) (m : Memory) (k : Nat) (hm : Memory.wf m = true) :
    Memory.wf (fillFree m k cells) = true := by
  induction cells generalizing m k with
  | nil => exact hm
  | cons a rest ih => exact ih _ _ (Memory.write_wf m _ _ a.isLt hm)

/-- The drain's writes leave every address outside its cells alone. -/
theorem read_fillFree_other (cells : List Word) (m : Memory) (k : Nat) (b : Nat) (hb : ∀ a ∈ cells, a.toNat ≠ b) :
    Memory.read (fillFree m k cells) b = Memory.read m b := by
  induction cells generalizing m k with
  | nil => rfl
  | cons a rest ih =>
    rw [fillFree, ih _ _ (fun c hc => hb c (by simp [hc])), Memory.read_write_other _ _ _ _ (hb a (by simp)).symm]

/-- In canonical form a listed address reads its entry. -/
theorem Memory.read_of_mem {m : Memory} (hm : Memory.wf m = true) {c : Host.Cell} (hc : c ∈ m) :
    Memory.read m c.1 = c.2 := by
  induction m with
  | nil => simp at hc
  | cons d rest ih =>
    obtain ⟨-, -, hall, hw⟩ := (Memory.wf_cons d rest).mp hm
    rcases List.mem_cons.mp hc with rfl | hc
    · simp [Memory.read]
    · have := hall c hc
      simp only [Memory.read, if_neg (by omega : ¬ d.1 = c.1)]
      exact ih hw hc

/-- The canonical form is unique: memories that read alike are equal data. -/
theorem Memory.eq_of_read_eq (m n : Memory) (hm : Memory.wf m = true) (hn : Memory.wf n = true)
    (h : ∀ a, Memory.read m a = Memory.read n a) : m = n := by
  induction m generalizing n with
  | nil =>
    cases n with
    | nil => rfl
    | cons d rest =>
      have hd := Memory.read_of_mem hn (c := d) (by simp)
      rw [← h, Memory.read_nil] at hd
      exact absurd hd.symm ((Memory.wf_cons d rest).mp hn).2.1
  | cons c r ih =>
    obtain ⟨-, hcne, hcall, hcw⟩ := (Memory.wf_cons c r).mp hm
    have hc := Memory.read_of_mem hm (c := c) (by simp)
    cases n with
    | nil =>
      rw [h, Memory.read_nil] at hc
      exact absurd hc.symm hcne
    | cons d rest =>
      obtain ⟨-, hdne, hdall, hdw⟩ := (Memory.wf_cons d rest).mp hn
      have hd := Memory.read_of_mem hn (c := d) (by simp)
      have hkey : c.1 = d.1 := by
        rcases lt_trichotomy c.1 d.1 with hlt | heq | hlt
        · have := Memory.read_of_lt (d :: rest) c.1 (by
            intro e he
            rcases List.mem_cons.mp he with rfl | he
            · exact hlt
            · exact lt_trans hlt (hdall e he))
          rw [h, this] at hc
          exact absurd hc.symm hcne
        · exact heq
        · have := Memory.read_of_lt (c :: r) d.1 (by
            intro e he
            rcases List.mem_cons.mp he with rfl | he
            · exact hlt
            · exact lt_trans hlt (hcall e he))
          rw [← h, this] at hd
          exact absurd hd.symm hdne
      have hcd : c = d := by
        have hv : c.2 = d.2 := by rw [← hc, h, hkey, hd]
        exact Prod.ext hkey hv
      subst hcd
      congr 1
      refine ih rest hcw hdw (fun a => ?_)
      have ha := h a
      simp only [Memory.read] at ha
      split at ha
      · rename_i heq
        subst heq
        rw [Memory.read_of_lt r _ hcall, Memory.read_of_lt rest _ hdall]
      · exact ha

end Sys2Proof.Machine
end

