-- ==== Sys2Proof/Laws/State.lean ====
section
/-! SUPPORT. One lemma per field per update of the state, true by rfl. -/

namespace Sys2Proof.Machine

variable (s : State)

/-! ### setA -/

@[simp] theorem State.setA_a (v : Byte) : (s.setA v).a = v := rfl
@[simp] theorem State.setA_x (v : Byte) : (s.setA v).x = s.x := rfl
@[simp] theorem State.setA_y (v : Byte) : (s.setA v).y = s.y := rfl
@[simp] theorem State.setA_sp (v : Byte) : (s.setA v).sp = s.sp := rfl
@[simp] theorem State.setA_p (v : Byte) : (s.setA v).p = putNZ v s.p := rfl
@[simp] theorem State.setA_pc (v : Byte) : (s.setA v).pc = s.pc := rfl
@[simp] theorem State.setA_run (v : Byte) : (s.setA v).run = s.run := rfl
@[simp] theorem State.setA_inProgress (v : Byte) : (s.setA v).inProgress = s.inProgress := rfl
@[simp] theorem State.setA_justResumed (v : Byte) : (s.setA v).justResumed = s.justResumed := rfl
@[simp] theorem State.setA_intervalCount (v : Byte) : (s.setA v).intervalCount = s.intervalCount := rfl
@[simp] theorem State.setA_intervalSteps (v : Byte) : (s.setA v).intervalSteps = s.intervalSteps := rfl
@[simp] theorem State.setA_serviceSteps (v : Byte) : (s.setA v).serviceSteps = s.serviceSteps := rfl
@[simp] theorem State.setA_mem (v : Byte) : (s.setA v).mem = s.mem := rfl
@[simp] theorem State.setA_keyQueue (v : Byte) : (s.setA v).keyQueue = s.keyQueue := rfl
@[simp] theorem State.setA_inbox (v : Byte) : (s.setA v).inbox = s.inbox := rfl
@[simp] theorem State.setA_emitted (v : Byte) : (s.setA v).emitted = s.emitted := rfl
@[simp] theorem State.setA_freeIndex (v : Byte) : (s.setA v).freeIndex = s.freeIndex := rfl
@[simp] theorem State.setA_cfg (v : Byte) : (s.setA v).cfg = s.cfg := rfl
@[simp] theorem State.setA_readByte (v : Byte) (c : Word) : (s.setA v).readByte c = s.readByte c := rfl

/-! ### setX -/

@[simp] theorem State.setX_a (v : Byte) : (s.setX v).a = s.a := rfl
@[simp] theorem State.setX_x (v : Byte) : (s.setX v).x = v := rfl
@[simp] theorem State.setX_y (v : Byte) : (s.setX v).y = s.y := rfl
@[simp] theorem State.setX_sp (v : Byte) : (s.setX v).sp = s.sp := rfl
@[simp] theorem State.setX_p (v : Byte) : (s.setX v).p = putNZ v s.p := rfl
@[simp] theorem State.setX_pc (v : Byte) : (s.setX v).pc = s.pc := rfl
@[simp] theorem State.setX_run (v : Byte) : (s.setX v).run = s.run := rfl
@[simp] theorem State.setX_inProgress (v : Byte) : (s.setX v).inProgress = s.inProgress := rfl
@[simp] theorem State.setX_justResumed (v : Byte) : (s.setX v).justResumed = s.justResumed := rfl
@[simp] theorem State.setX_intervalCount (v : Byte) : (s.setX v).intervalCount = s.intervalCount := rfl
@[simp] theorem State.setX_intervalSteps (v : Byte) : (s.setX v).intervalSteps = s.intervalSteps := rfl
@[simp] theorem State.setX_serviceSteps (v : Byte) : (s.setX v).serviceSteps = s.serviceSteps := rfl
@[simp] theorem State.setX_mem (v : Byte) : (s.setX v).mem = s.mem := rfl
@[simp] theorem State.setX_keyQueue (v : Byte) : (s.setX v).keyQueue = s.keyQueue := rfl
@[simp] theorem State.setX_inbox (v : Byte) : (s.setX v).inbox = s.inbox := rfl
@[simp] theorem State.setX_emitted (v : Byte) : (s.setX v).emitted = s.emitted := rfl
@[simp] theorem State.setX_freeIndex (v : Byte) : (s.setX v).freeIndex = s.freeIndex := rfl
@[simp] theorem State.setX_cfg (v : Byte) : (s.setX v).cfg = s.cfg := rfl
@[simp] theorem State.setX_readByte (v : Byte) (c : Word) : (s.setX v).readByte c = s.readByte c := rfl

/-! ### setY -/

@[simp] theorem State.setY_a (v : Byte) : (s.setY v).a = s.a := rfl
@[simp] theorem State.setY_x (v : Byte) : (s.setY v).x = s.x := rfl
@[simp] theorem State.setY_y (v : Byte) : (s.setY v).y = v := rfl
@[simp] theorem State.setY_sp (v : Byte) : (s.setY v).sp = s.sp := rfl
@[simp] theorem State.setY_p (v : Byte) : (s.setY v).p = putNZ v s.p := rfl
@[simp] theorem State.setY_pc (v : Byte) : (s.setY v).pc = s.pc := rfl
@[simp] theorem State.setY_run (v : Byte) : (s.setY v).run = s.run := rfl
@[simp] theorem State.setY_inProgress (v : Byte) : (s.setY v).inProgress = s.inProgress := rfl
@[simp] theorem State.setY_justResumed (v : Byte) : (s.setY v).justResumed = s.justResumed := rfl
@[simp] theorem State.setY_intervalCount (v : Byte) : (s.setY v).intervalCount = s.intervalCount := rfl
@[simp] theorem State.setY_intervalSteps (v : Byte) : (s.setY v).intervalSteps = s.intervalSteps := rfl
@[simp] theorem State.setY_serviceSteps (v : Byte) : (s.setY v).serviceSteps = s.serviceSteps := rfl
@[simp] theorem State.setY_mem (v : Byte) : (s.setY v).mem = s.mem := rfl
@[simp] theorem State.setY_keyQueue (v : Byte) : (s.setY v).keyQueue = s.keyQueue := rfl
@[simp] theorem State.setY_inbox (v : Byte) : (s.setY v).inbox = s.inbox := rfl
@[simp] theorem State.setY_emitted (v : Byte) : (s.setY v).emitted = s.emitted := rfl
@[simp] theorem State.setY_freeIndex (v : Byte) : (s.setY v).freeIndex = s.freeIndex := rfl
@[simp] theorem State.setY_cfg (v : Byte) : (s.setY v).cfg = s.cfg := rfl
@[simp] theorem State.setY_readByte (v : Byte) (c : Word) : (s.setY v).readByte c = s.readByte c := rfl

/-! ### setPC -/

@[simp] theorem State.setPC_a (v : Word) : (s.setPC v).a = s.a := rfl
@[simp] theorem State.setPC_x (v : Word) : (s.setPC v).x = s.x := rfl
@[simp] theorem State.setPC_y (v : Word) : (s.setPC v).y = s.y := rfl
@[simp] theorem State.setPC_sp (v : Word) : (s.setPC v).sp = s.sp := rfl
@[simp] theorem State.setPC_p (v : Word) : (s.setPC v).p = s.p := rfl
@[simp] theorem State.setPC_pc (v : Word) : (s.setPC v).pc = v := rfl
@[simp] theorem State.setPC_run (v : Word) : (s.setPC v).run = s.run := rfl
@[simp] theorem State.setPC_inProgress (v : Word) : (s.setPC v).inProgress = s.inProgress := rfl
@[simp] theorem State.setPC_justResumed (v : Word) : (s.setPC v).justResumed = s.justResumed := rfl
@[simp] theorem State.setPC_intervalCount (v : Word) : (s.setPC v).intervalCount = s.intervalCount := rfl
@[simp] theorem State.setPC_intervalSteps (v : Word) : (s.setPC v).intervalSteps = s.intervalSteps := rfl
@[simp] theorem State.setPC_serviceSteps (v : Word) : (s.setPC v).serviceSteps = s.serviceSteps := rfl
@[simp] theorem State.setPC_mem (v : Word) : (s.setPC v).mem = s.mem := rfl
@[simp] theorem State.setPC_keyQueue (v : Word) : (s.setPC v).keyQueue = s.keyQueue := rfl
@[simp] theorem State.setPC_inbox (v : Word) : (s.setPC v).inbox = s.inbox := rfl
@[simp] theorem State.setPC_emitted (v : Word) : (s.setPC v).emitted = s.emitted := rfl
@[simp] theorem State.setPC_freeIndex (v : Word) : (s.setPC v).freeIndex = s.freeIndex := rfl
@[simp] theorem State.setPC_cfg (v : Word) : (s.setPC v).cfg = s.cfg := rfl
@[simp] theorem State.setPC_readByte (v : Word) (c : Word) : (s.setPC v).readByte c = s.readByte c := rfl
@[simp] theorem State.setPC_flag (v : Word) (g : Flag) : (s.setPC v).flag g = s.flag g := rfl

/-! ### setSP -/

@[simp] theorem State.setSP_a (v : Byte) : (s.setSP v).a = s.a := rfl
@[simp] theorem State.setSP_x (v : Byte) : (s.setSP v).x = s.x := rfl
@[simp] theorem State.setSP_y (v : Byte) : (s.setSP v).y = s.y := rfl
@[simp] theorem State.setSP_sp (v : Byte) : (s.setSP v).sp = v := rfl
@[simp] theorem State.setSP_p (v : Byte) : (s.setSP v).p = s.p := rfl
@[simp] theorem State.setSP_pc (v : Byte) : (s.setSP v).pc = s.pc := rfl
@[simp] theorem State.setSP_run (v : Byte) : (s.setSP v).run = s.run := rfl
@[simp] theorem State.setSP_inProgress (v : Byte) : (s.setSP v).inProgress = s.inProgress := rfl
@[simp] theorem State.setSP_justResumed (v : Byte) : (s.setSP v).justResumed = s.justResumed := rfl
@[simp] theorem State.setSP_intervalCount (v : Byte) : (s.setSP v).intervalCount = s.intervalCount := rfl
@[simp] theorem State.setSP_intervalSteps (v : Byte) : (s.setSP v).intervalSteps = s.intervalSteps := rfl
@[simp] theorem State.setSP_serviceSteps (v : Byte) : (s.setSP v).serviceSteps = s.serviceSteps := rfl
@[simp] theorem State.setSP_mem (v : Byte) : (s.setSP v).mem = s.mem := rfl
@[simp] theorem State.setSP_keyQueue (v : Byte) : (s.setSP v).keyQueue = s.keyQueue := rfl
@[simp] theorem State.setSP_inbox (v : Byte) : (s.setSP v).inbox = s.inbox := rfl
@[simp] theorem State.setSP_emitted (v : Byte) : (s.setSP v).emitted = s.emitted := rfl
@[simp] theorem State.setSP_freeIndex (v : Byte) : (s.setSP v).freeIndex = s.freeIndex := rfl
@[simp] theorem State.setSP_cfg (v : Byte) : (s.setSP v).cfg = s.cfg := rfl
@[simp] theorem State.setSP_readByte (v : Byte) (c : Word) : (s.setSP v).readByte c = s.readByte c := rfl
@[simp] theorem State.setSP_flag (v : Byte) (g : Flag) : (s.setSP v).flag g = s.flag g := rfl

/-! ### setP -/

@[simp] theorem State.setP_a (v : Byte) : (s.setP v).a = s.a := rfl
@[simp] theorem State.setP_x (v : Byte) : (s.setP v).x = s.x := rfl
@[simp] theorem State.setP_y (v : Byte) : (s.setP v).y = s.y := rfl
@[simp] theorem State.setP_sp (v : Byte) : (s.setP v).sp = s.sp := rfl
@[simp] theorem State.setP_p (v : Byte) : (s.setP v).p = v := rfl
@[simp] theorem State.setP_pc (v : Byte) : (s.setP v).pc = s.pc := rfl
@[simp] theorem State.setP_run (v : Byte) : (s.setP v).run = s.run := rfl
@[simp] theorem State.setP_inProgress (v : Byte) : (s.setP v).inProgress = s.inProgress := rfl
@[simp] theorem State.setP_justResumed (v : Byte) : (s.setP v).justResumed = s.justResumed := rfl
@[simp] theorem State.setP_intervalCount (v : Byte) : (s.setP v).intervalCount = s.intervalCount := rfl
@[simp] theorem State.setP_intervalSteps (v : Byte) : (s.setP v).intervalSteps = s.intervalSteps := rfl
@[simp] theorem State.setP_serviceSteps (v : Byte) : (s.setP v).serviceSteps = s.serviceSteps := rfl
@[simp] theorem State.setP_mem (v : Byte) : (s.setP v).mem = s.mem := rfl
@[simp] theorem State.setP_keyQueue (v : Byte) : (s.setP v).keyQueue = s.keyQueue := rfl
@[simp] theorem State.setP_inbox (v : Byte) : (s.setP v).inbox = s.inbox := rfl
@[simp] theorem State.setP_emitted (v : Byte) : (s.setP v).emitted = s.emitted := rfl
@[simp] theorem State.setP_freeIndex (v : Byte) : (s.setP v).freeIndex = s.freeIndex := rfl
@[simp] theorem State.setP_cfg (v : Byte) : (s.setP v).cfg = s.cfg := rfl
@[simp] theorem State.setP_readByte (v : Byte) (c : Word) : (s.setP v).readByte c = s.readByte c := rfl

/-! ### setFlag -/

@[simp] theorem State.setFlag_a (f : Flag) (e : Bool) : (s.setFlag f e).a = s.a := rfl
@[simp] theorem State.setFlag_x (f : Flag) (e : Bool) : (s.setFlag f e).x = s.x := rfl
@[simp] theorem State.setFlag_y (f : Flag) (e : Bool) : (s.setFlag f e).y = s.y := rfl
@[simp] theorem State.setFlag_sp (f : Flag) (e : Bool) : (s.setFlag f e).sp = s.sp := rfl
@[simp] theorem State.setFlag_p (f : Flag) (e : Bool) : (s.setFlag f e).p = putFlag f e s.p := rfl
@[simp] theorem State.setFlag_pc (f : Flag) (e : Bool) : (s.setFlag f e).pc = s.pc := rfl
@[simp] theorem State.setFlag_run (f : Flag) (e : Bool) : (s.setFlag f e).run = s.run := rfl
@[simp] theorem State.setFlag_inProgress (f : Flag) (e : Bool) : (s.setFlag f e).inProgress = s.inProgress := rfl
@[simp] theorem State.setFlag_justResumed (f : Flag) (e : Bool) : (s.setFlag f e).justResumed = s.justResumed := rfl
@[simp] theorem State.setFlag_intervalCount (f : Flag) (e : Bool) : (s.setFlag f e).intervalCount = s.intervalCount := rfl
@[simp] theorem State.setFlag_intervalSteps (f : Flag) (e : Bool) : (s.setFlag f e).intervalSteps = s.intervalSteps := rfl
@[simp] theorem State.setFlag_serviceSteps (f : Flag) (e : Bool) : (s.setFlag f e).serviceSteps = s.serviceSteps := rfl
@[simp] theorem State.setFlag_mem (f : Flag) (e : Bool) : (s.setFlag f e).mem = s.mem := rfl
@[simp] theorem State.setFlag_keyQueue (f : Flag) (e : Bool) : (s.setFlag f e).keyQueue = s.keyQueue := rfl
@[simp] theorem State.setFlag_inbox (f : Flag) (e : Bool) : (s.setFlag f e).inbox = s.inbox := rfl
@[simp] theorem State.setFlag_emitted (f : Flag) (e : Bool) : (s.setFlag f e).emitted = s.emitted := rfl
@[simp] theorem State.setFlag_freeIndex (f : Flag) (e : Bool) : (s.setFlag f e).freeIndex = s.freeIndex := rfl
@[simp] theorem State.setFlag_cfg (f : Flag) (e : Bool) : (s.setFlag f e).cfg = s.cfg := rfl
@[simp] theorem State.setFlag_readByte (f : Flag) (e : Bool) (c : Word) : (s.setFlag f e).readByte c = s.readByte c := rfl

/-! ### advance -/

@[simp] theorem State.advance_a (n : Nat) : (s.advance n).a = s.a := rfl
@[simp] theorem State.advance_x (n : Nat) : (s.advance n).x = s.x := rfl
@[simp] theorem State.advance_y (n : Nat) : (s.advance n).y = s.y := rfl
@[simp] theorem State.advance_sp (n : Nat) : (s.advance n).sp = s.sp := rfl
@[simp] theorem State.advance_p (n : Nat) : (s.advance n).p = s.p := rfl
@[simp] theorem State.advance_pc (n : Nat) : (s.advance n).pc = s.pc + BitVec.ofNat 16 n := rfl
@[simp] theorem State.advance_run (n : Nat) : (s.advance n).run = s.run := rfl
@[simp] theorem State.advance_inProgress (n : Nat) : (s.advance n).inProgress = s.inProgress := rfl
@[simp] theorem State.advance_justResumed (n : Nat) : (s.advance n).justResumed = s.justResumed := rfl
@[simp] theorem State.advance_intervalCount (n : Nat) : (s.advance n).intervalCount = s.intervalCount := rfl
@[simp] theorem State.advance_intervalSteps (n : Nat) : (s.advance n).intervalSteps = s.intervalSteps := rfl
@[simp] theorem State.advance_serviceSteps (n : Nat) : (s.advance n).serviceSteps = s.serviceSteps := rfl
@[simp] theorem State.advance_mem (n : Nat) : (s.advance n).mem = s.mem := rfl
@[simp] theorem State.advance_keyQueue (n : Nat) : (s.advance n).keyQueue = s.keyQueue := rfl
@[simp] theorem State.advance_inbox (n : Nat) : (s.advance n).inbox = s.inbox := rfl
@[simp] theorem State.advance_emitted (n : Nat) : (s.advance n).emitted = s.emitted := rfl
@[simp] theorem State.advance_freeIndex (n : Nat) : (s.advance n).freeIndex = s.freeIndex := rfl
@[simp] theorem State.advance_cfg (n : Nat) : (s.advance n).cfg = s.cfg := rfl
@[simp] theorem State.advance_readByte (n : Nat) (c : Word) : (s.advance n).readByte c = s.readByte c := rfl
@[simp] theorem State.advance_flag (n : Nat) (g : Flag) : (s.advance n).flag g = s.flag g := rfl

/-! ### writeByte -/

@[simp] theorem State.writeByte_a (b : Word) (v : Byte) : (s.writeByte b v).a = s.a := rfl
@[simp] theorem State.writeByte_x (b : Word) (v : Byte) : (s.writeByte b v).x = s.x := rfl
@[simp] theorem State.writeByte_y (b : Word) (v : Byte) : (s.writeByte b v).y = s.y := rfl
@[simp] theorem State.writeByte_sp (b : Word) (v : Byte) : (s.writeByte b v).sp = s.sp := rfl
@[simp] theorem State.writeByte_p (b : Word) (v : Byte) : (s.writeByte b v).p = s.p := rfl
@[simp] theorem State.writeByte_pc (b : Word) (v : Byte) : (s.writeByte b v).pc = s.pc := rfl
@[simp] theorem State.writeByte_run (b : Word) (v : Byte) : (s.writeByte b v).run = s.run := rfl
@[simp] theorem State.writeByte_inProgress (b : Word) (v : Byte) : (s.writeByte b v).inProgress = s.inProgress := rfl
@[simp] theorem State.writeByte_justResumed (b : Word) (v : Byte) : (s.writeByte b v).justResumed = s.justResumed := rfl
@[simp] theorem State.writeByte_intervalCount (b : Word) (v : Byte) : (s.writeByte b v).intervalCount = s.intervalCount := rfl
@[simp] theorem State.writeByte_intervalSteps (b : Word) (v : Byte) : (s.writeByte b v).intervalSteps = s.intervalSteps := rfl
@[simp] theorem State.writeByte_serviceSteps (b : Word) (v : Byte) : (s.writeByte b v).serviceSteps = s.serviceSteps := rfl
@[simp] theorem State.writeByte_mem (b : Word) (v : Byte) : (s.writeByte b v).mem = s.mem.write b.toNat v := rfl
@[simp] theorem State.writeByte_keyQueue (b : Word) (v : Byte) : (s.writeByte b v).keyQueue = s.keyQueue := rfl
@[simp] theorem State.writeByte_inbox (b : Word) (v : Byte) : (s.writeByte b v).inbox = s.inbox := rfl
@[simp] theorem State.writeByte_emitted (b : Word) (v : Byte) : (s.writeByte b v).emitted = s.emitted := rfl
@[simp] theorem State.writeByte_freeIndex (b : Word) (v : Byte) : (s.writeByte b v).freeIndex = s.freeIndex := rfl
@[simp] theorem State.writeByte_cfg (b : Word) (v : Byte) : (s.writeByte b v).cfg = s.cfg := rfl
@[simp] theorem State.writeByte_flag (b : Word) (v : Byte) (g : Flag) : (s.writeByte b v).flag g = s.flag g := rfl

/-! ### push -/

@[simp] theorem State.push_a (v : Byte) : (s.push v).a = s.a := rfl
@[simp] theorem State.push_x (v : Byte) : (s.push v).x = s.x := rfl
@[simp] theorem State.push_y (v : Byte) : (s.push v).y = s.y := rfl
@[simp] theorem State.push_sp (v : Byte) : (s.push v).sp = s.sp - 1 := rfl
@[simp] theorem State.push_p (v : Byte) : (s.push v).p = s.p := rfl
@[simp] theorem State.push_pc (v : Byte) : (s.push v).pc = s.pc := rfl
@[simp] theorem State.push_run (v : Byte) : (s.push v).run = s.run := rfl
@[simp] theorem State.push_inProgress (v : Byte) : (s.push v).inProgress = s.inProgress := rfl
@[simp] theorem State.push_justResumed (v : Byte) : (s.push v).justResumed = s.justResumed := rfl
@[simp] theorem State.push_intervalCount (v : Byte) : (s.push v).intervalCount = s.intervalCount := rfl
@[simp] theorem State.push_intervalSteps (v : Byte) : (s.push v).intervalSteps = s.intervalSteps := rfl
@[simp] theorem State.push_serviceSteps (v : Byte) : (s.push v).serviceSteps = s.serviceSteps := rfl
@[simp] theorem State.push_mem (v : Byte) : (s.push v).mem = s.mem.write (stackAddr s.sp).toNat v := rfl
@[simp] theorem State.push_keyQueue (v : Byte) : (s.push v).keyQueue = s.keyQueue := rfl
@[simp] theorem State.push_inbox (v : Byte) : (s.push v).inbox = s.inbox := rfl
@[simp] theorem State.push_emitted (v : Byte) : (s.push v).emitted = s.emitted := rfl
@[simp] theorem State.push_freeIndex (v : Byte) : (s.push v).freeIndex = s.freeIndex := rfl
@[simp] theorem State.push_cfg (v : Byte) : (s.push v).cfg = s.cfg := rfl
@[simp] theorem State.push_flag (v : Byte) (g : Flag) : (s.push v).flag g = s.flag g := rfl

/-! ### dropTop -/

@[simp] theorem State.dropTop_a : s.dropTop.a = s.a := rfl
@[simp] theorem State.dropTop_x : s.dropTop.x = s.x := rfl
@[simp] theorem State.dropTop_y : s.dropTop.y = s.y := rfl
@[simp] theorem State.dropTop_sp : s.dropTop.sp = s.sp + 1 := rfl
@[simp] theorem State.dropTop_p : s.dropTop.p = s.p := rfl
@[simp] theorem State.dropTop_pc : s.dropTop.pc = s.pc := rfl
@[simp] theorem State.dropTop_run : s.dropTop.run = s.run := rfl
@[simp] theorem State.dropTop_inProgress : s.dropTop.inProgress = s.inProgress := rfl
@[simp] theorem State.dropTop_justResumed : s.dropTop.justResumed = s.justResumed := rfl
@[simp] theorem State.dropTop_intervalCount : s.dropTop.intervalCount = s.intervalCount := rfl
@[simp] theorem State.dropTop_intervalSteps : s.dropTop.intervalSteps = s.intervalSteps := rfl
@[simp] theorem State.dropTop_serviceSteps : s.dropTop.serviceSteps = s.serviceSteps := rfl
@[simp] theorem State.dropTop_mem : s.dropTop.mem = s.mem := rfl
@[simp] theorem State.dropTop_keyQueue : s.dropTop.keyQueue = s.keyQueue := rfl
@[simp] theorem State.dropTop_inbox : s.dropTop.inbox = s.inbox := rfl
@[simp] theorem State.dropTop_emitted : s.dropTop.emitted = s.emitted := rfl
@[simp] theorem State.dropTop_freeIndex : s.dropTop.freeIndex = s.freeIndex := rfl
@[simp] theorem State.dropTop_cfg : s.dropTop.cfg = s.cfg := rfl
@[simp] theorem State.dropTop_readByte (c : Word) : s.dropTop.readByte c = s.readByte c := rfl
@[simp] theorem State.dropTop_flag (g : Flag) : s.dropTop.flag g = s.flag g := rfl

/-! ### halt -/

@[simp] theorem State.halt_a (r : HaltReason) : (s.halt r).a = s.a := rfl
@[simp] theorem State.halt_x (r : HaltReason) : (s.halt r).x = s.x := rfl
@[simp] theorem State.halt_y (r : HaltReason) : (s.halt r).y = s.y := rfl
@[simp] theorem State.halt_sp (r : HaltReason) : (s.halt r).sp = s.sp := rfl
@[simp] theorem State.halt_p (r : HaltReason) : (s.halt r).p = s.p := rfl
@[simp] theorem State.halt_pc (r : HaltReason) : (s.halt r).pc = s.pc := rfl
@[simp] theorem State.halt_run (r : HaltReason) : (s.halt r).run = .halted r := rfl
@[simp] theorem State.halt_inProgress (r : HaltReason) : (s.halt r).inProgress = s.inProgress := rfl
@[simp] theorem State.halt_justResumed (r : HaltReason) : (s.halt r).justResumed = s.justResumed := rfl
@[simp] theorem State.halt_intervalCount (r : HaltReason) : (s.halt r).intervalCount = s.intervalCount := rfl
@[simp] theorem State.halt_intervalSteps (r : HaltReason) : (s.halt r).intervalSteps = s.intervalSteps := rfl
@[simp] theorem State.halt_serviceSteps (r : HaltReason) : (s.halt r).serviceSteps = s.serviceSteps := rfl
@[simp] theorem State.halt_mem (r : HaltReason) : (s.halt r).mem = s.mem := rfl
@[simp] theorem State.halt_keyQueue (r : HaltReason) : (s.halt r).keyQueue = s.keyQueue := rfl
@[simp] theorem State.halt_inbox (r : HaltReason) : (s.halt r).inbox = s.inbox := rfl
@[simp] theorem State.halt_emitted (r : HaltReason) : (s.halt r).emitted = s.emitted := rfl
@[simp] theorem State.halt_freeIndex (r : HaltReason) : (s.halt r).freeIndex = s.freeIndex := rfl
@[simp] theorem State.halt_cfg (r : HaltReason) : (s.halt r).cfg = s.cfg := rfl
@[simp] theorem State.halt_readByte (r : HaltReason) (c : Word) : (s.halt r).readByte c = s.readByte c := rfl
@[simp] theorem State.halt_flag (r : HaltReason) (g : Flag) : (s.halt r).flag g = s.flag g := rfl

/-! ### raiseFatal -/

@[simp] theorem State.raiseFatal_a (r : HaltReason) : (s.raiseFatal r).a = s.a := rfl
@[simp] theorem State.raiseFatal_x (r : HaltReason) : (s.raiseFatal r).x = s.x := rfl
@[simp] theorem State.raiseFatal_y (r : HaltReason) : (s.raiseFatal r).y = s.y := rfl
@[simp] theorem State.raiseFatal_sp (r : HaltReason) : (s.raiseFatal r).sp = s.sp := rfl
@[simp] theorem State.raiseFatal_p (r : HaltReason) : (s.raiseFatal r).p = s.p := rfl
@[simp] theorem State.raiseFatal_pc (r : HaltReason) : (s.raiseFatal r).pc = Config.freeWord s.freeIndex := rfl
@[simp] theorem State.raiseFatal_run (r : HaltReason) : (s.raiseFatal r).run = .halted r := rfl
@[simp] theorem State.raiseFatal_inProgress (r : HaltReason) : (s.raiseFatal r).inProgress = s.inProgress := rfl
@[simp] theorem State.raiseFatal_justResumed (r : HaltReason) : (s.raiseFatal r).justResumed = s.justResumed := rfl
@[simp] theorem State.raiseFatal_intervalCount (r : HaltReason) : (s.raiseFatal r).intervalCount = s.intervalCount := rfl
@[simp] theorem State.raiseFatal_intervalSteps (r : HaltReason) : (s.raiseFatal r).intervalSteps = s.intervalSteps := rfl
@[simp] theorem State.raiseFatal_serviceSteps (r : HaltReason) : (s.raiseFatal r).serviceSteps = s.serviceSteps := rfl
@[simp] theorem State.raiseFatal_mem (r : HaltReason) : (s.raiseFatal r).mem = s.mem := rfl
@[simp] theorem State.raiseFatal_keyQueue (r : HaltReason) : (s.raiseFatal r).keyQueue = s.keyQueue := rfl
@[simp] theorem State.raiseFatal_inbox (r : HaltReason) : (s.raiseFatal r).inbox = s.inbox := rfl
@[simp] theorem State.raiseFatal_emitted (r : HaltReason) : (s.raiseFatal r).emitted = s.emitted := rfl
@[simp] theorem State.raiseFatal_freeIndex (r : HaltReason) : (s.raiseFatal r).freeIndex = s.freeIndex + 1 := rfl
@[simp] theorem State.raiseFatal_cfg (r : HaltReason) : (s.raiseFatal r).cfg = s.cfg := rfl
@[simp] theorem State.raiseFatal_readByte (r : HaltReason) (c : Word) : (s.raiseFatal r).readByte c = s.readByte c := rfl
@[simp] theorem State.raiseFatal_flag (r : HaltReason) (g : Flag) : (s.raiseFatal r).flag g = s.flag g := rfl

/-! ### park -/

@[simp] theorem State.park_a : s.park.a = s.a := rfl
@[simp] theorem State.park_x : s.park.x = s.x := rfl
@[simp] theorem State.park_y : s.park.y = s.y := rfl
@[simp] theorem State.park_sp : s.park.sp = s.sp := rfl
@[simp] theorem State.park_p : s.park.p = s.p := rfl
@[simp] theorem State.park_pc : s.park.pc = s.pc := rfl
@[simp] theorem State.park_run : s.park.run = .suspended := rfl
@[simp] theorem State.park_inProgress : s.park.inProgress = s.inProgress := rfl
@[simp] theorem State.park_justResumed : s.park.justResumed = s.justResumed := rfl
@[simp] theorem State.park_intervalCount : s.park.intervalCount = s.intervalCount := rfl
@[simp] theorem State.park_intervalSteps : s.park.intervalSteps = none := rfl
@[simp] theorem State.park_serviceSteps : s.park.serviceSteps = s.serviceSteps := rfl
@[simp] theorem State.park_mem : s.park.mem = s.mem := rfl
@[simp] theorem State.park_keyQueue : s.park.keyQueue = s.keyQueue := rfl
@[simp] theorem State.park_inbox : s.park.inbox = s.inbox := rfl
@[simp] theorem State.park_emitted : s.park.emitted = s.emitted := rfl
@[simp] theorem State.park_freeIndex : s.park.freeIndex = s.freeIndex := rfl
@[simp] theorem State.park_cfg : s.park.cfg = s.cfg := rfl
@[simp] theorem State.park_readByte (c : Word) : s.park.readByte c = s.readByte c := rfl
@[simp] theorem State.park_flag (g : Flag) : s.park.flag g = s.flag g := rfl

/-! ### endService -/

@[simp] theorem State.endService_a : s.endService.a = s.a := rfl
@[simp] theorem State.endService_x : s.endService.x = s.x := rfl
@[simp] theorem State.endService_y : s.endService.y = s.y := rfl
@[simp] theorem State.endService_sp : s.endService.sp = s.sp := rfl
@[simp] theorem State.endService_p : s.endService.p = s.p := rfl
@[simp] theorem State.endService_pc : s.endService.pc = s.pc := rfl
@[simp] theorem State.endService_run : s.endService.run = .running := rfl
@[simp] theorem State.endService_inProgress : s.endService.inProgress = s.inProgress := rfl
@[simp] theorem State.endService_justResumed : s.endService.justResumed = s.justResumed := rfl
@[simp] theorem State.endService_intervalCount : s.endService.intervalCount = s.intervalCount := rfl
@[simp] theorem State.endService_intervalSteps : s.endService.intervalSteps = s.intervalSteps := rfl
@[simp] theorem State.endService_serviceSteps : s.endService.serviceSteps = 0 := rfl
@[simp] theorem State.endService_mem : s.endService.mem = s.mem := rfl
@[simp] theorem State.endService_keyQueue : s.endService.keyQueue = s.keyQueue := rfl
@[simp] theorem State.endService_inbox : s.endService.inbox = s.inbox := rfl
@[simp] theorem State.endService_emitted : s.endService.emitted = s.emitted := rfl
@[simp] theorem State.endService_freeIndex : s.endService.freeIndex = s.freeIndex := rfl
@[simp] theorem State.endService_cfg : s.endService.cfg = s.cfg := rfl
@[simp] theorem State.endService_readByte (c : Word) : s.endService.readByte c = s.readByte c := rfl
@[simp] theorem State.endService_flag (g : Flag) : s.endService.flag g = s.flag g := rfl

/-! ### pressKey -/

@[simp] theorem State.pressKey_a (k : Byte) : (s.pressKey k).a = s.a := rfl
@[simp] theorem State.pressKey_x (k : Byte) : (s.pressKey k).x = s.x := rfl
@[simp] theorem State.pressKey_y (k : Byte) : (s.pressKey k).y = s.y := rfl
@[simp] theorem State.pressKey_sp (k : Byte) : (s.pressKey k).sp = s.sp := rfl
@[simp] theorem State.pressKey_p (k : Byte) : (s.pressKey k).p = s.p := rfl
@[simp] theorem State.pressKey_pc (k : Byte) : (s.pressKey k).pc = s.pc := rfl
@[simp] theorem State.pressKey_run (k : Byte) : (s.pressKey k).run = s.run := rfl
@[simp] theorem State.pressKey_inProgress (k : Byte) : (s.pressKey k).inProgress = s.inProgress := rfl
@[simp] theorem State.pressKey_justResumed (k : Byte) : (s.pressKey k).justResumed = s.justResumed := rfl
@[simp] theorem State.pressKey_intervalCount (k : Byte) : (s.pressKey k).intervalCount = s.intervalCount := rfl
@[simp] theorem State.pressKey_intervalSteps (k : Byte) : (s.pressKey k).intervalSteps = s.intervalSteps := rfl
@[simp] theorem State.pressKey_serviceSteps (k : Byte) : (s.pressKey k).serviceSteps = s.serviceSteps := rfl
@[simp] theorem State.pressKey_mem (k : Byte) : (s.pressKey k).mem = s.mem := rfl
@[simp] theorem State.pressKey_keyQueue (k : Byte) : (s.pressKey k).keyQueue = s.keyQueue ++ [k] := rfl
@[simp] theorem State.pressKey_inbox (k : Byte) : (s.pressKey k).inbox = s.inbox := rfl
@[simp] theorem State.pressKey_emitted (k : Byte) : (s.pressKey k).emitted = s.emitted := rfl
@[simp] theorem State.pressKey_freeIndex (k : Byte) : (s.pressKey k).freeIndex = s.freeIndex := rfl
@[simp] theorem State.pressKey_cfg (k : Byte) : (s.pressKey k).cfg = s.cfg := rfl
@[simp] theorem State.pressKey_readByte (k : Byte) (c : Word) : (s.pressKey k).readByte c = s.readByte c := rfl
@[simp] theorem State.pressKey_flag (k : Byte) (g : Flag) : (s.pressKey k).flag g = s.flag g := rfl

/-! ### emitAt -/

@[simp] theorem State.emitAt_a (b : Word) : (s.emitAt b).a = s.a := rfl
@[simp] theorem State.emitAt_x (b : Word) : (s.emitAt b).x = s.x := rfl
@[simp] theorem State.emitAt_y (b : Word) : (s.emitAt b).y = s.y := rfl
@[simp] theorem State.emitAt_sp (b : Word) : (s.emitAt b).sp = s.sp := rfl
@[simp] theorem State.emitAt_p (b : Word) : (s.emitAt b).p = s.p := rfl
@[simp] theorem State.emitAt_pc (b : Word) : (s.emitAt b).pc = s.pc := rfl
@[simp] theorem State.emitAt_run (b : Word) : (s.emitAt b).run = s.run := rfl
@[simp] theorem State.emitAt_inProgress (b : Word) : (s.emitAt b).inProgress = s.inProgress := rfl
@[simp] theorem State.emitAt_justResumed (b : Word) : (s.emitAt b).justResumed = s.justResumed := rfl
@[simp] theorem State.emitAt_intervalCount (b : Word) : (s.emitAt b).intervalCount = s.intervalCount := rfl
@[simp] theorem State.emitAt_intervalSteps (b : Word) : (s.emitAt b).intervalSteps = s.intervalSteps := rfl
@[simp] theorem State.emitAt_serviceSteps (b : Word) : (s.emitAt b).serviceSteps = s.serviceSteps := rfl
@[simp] theorem State.emitAt_mem (b : Word) : (s.emitAt b).mem = s.mem := rfl
@[simp] theorem State.emitAt_keyQueue (b : Word) : (s.emitAt b).keyQueue = s.keyQueue := rfl
@[simp] theorem State.emitAt_inbox (b : Word) : (s.emitAt b).inbox = s.inbox := rfl
@[simp] theorem State.emitAt_emitted (b : Word) : (s.emitAt b).emitted = s.emitted ++ (Config.debugAt s.cfg b).map (fun n => (b, n)) := rfl
@[simp] theorem State.emitAt_freeIndex (b : Word) : (s.emitAt b).freeIndex = s.freeIndex := rfl
@[simp] theorem State.emitAt_cfg (b : Word) : (s.emitAt b).cfg = s.cfg := rfl
@[simp] theorem State.emitAt_readByte (b : Word) (c : Word) : (s.emitAt b).readByte c = s.readByte c := rfl
@[simp] theorem State.emitAt_flag (b : Word) (g : Flag) : (s.emitAt b).flag g = s.flag g := rfl

/-! ### boot and reset -/

@[simp] theorem State.boot_a (c : Config) (m : Memory) : (State.boot c m).a = c.resetA := rfl
@[simp] theorem State.boot_x (c : Config) (m : Memory) : (State.boot c m).x = c.resetX := rfl
@[simp] theorem State.boot_y (c : Config) (m : Memory) : (State.boot c m).y = c.resetY := rfl
@[simp] theorem State.boot_sp (c : Config) (m : Memory) : (State.boot c m).sp = 0xFF := rfl
@[simp] theorem State.boot_p (c : Config) (m : Memory) : (State.boot c m).p = 0x00 := rfl
@[simp] theorem State.boot_pc (c : Config) (m : Memory) : (State.boot c m).pc = c.programStart := rfl
@[simp] theorem State.boot_run (c : Config) (m : Memory) : (State.boot c m).run = .idle := rfl
@[simp] theorem State.boot_inProgress (c : Config) (m : Memory) : (State.boot c m).inProgress = false := rfl
@[simp] theorem State.boot_justResumed (c : Config) (m : Memory) : (State.boot c m).justResumed = false := rfl
@[simp] theorem State.boot_intervalCount (c : Config) (m : Memory) : (State.boot c m).intervalCount = 0 := rfl
@[simp] theorem State.boot_intervalSteps (c : Config) (m : Memory) : (State.boot c m).intervalSteps = none := rfl
@[simp] theorem State.boot_serviceSteps (c : Config) (m : Memory) : (State.boot c m).serviceSteps = 0 := rfl
@[simp] theorem State.boot_mem (c : Config) (m : Memory) : (State.boot c m).mem = m := rfl
@[simp] theorem State.boot_keyQueue (c : Config) (m : Memory) : (State.boot c m).keyQueue = [] := rfl
@[simp] theorem State.boot_inbox (c : Config) (m : Memory) : (State.boot c m).inbox = [] := rfl
@[simp] theorem State.boot_emitted (c : Config) (m : Memory) : (State.boot c m).emitted = [] := rfl
@[simp] theorem State.boot_freeIndex (c : Config) (m : Memory) : (State.boot c m).freeIndex = 0 := rfl
@[simp] theorem State.boot_cfg (c : Config) (m : Memory) : (State.boot c m).cfg = c := rfl

@[simp] theorem State.applyReset_a : s.applyReset.a = s.cfg.resetA := rfl
@[simp] theorem State.applyReset_x : s.applyReset.x = s.cfg.resetX := rfl
@[simp] theorem State.applyReset_y : s.applyReset.y = s.cfg.resetY := rfl
@[simp] theorem State.applyReset_sp : s.applyReset.sp = 0xFF := rfl
@[simp] theorem State.applyReset_p : s.applyReset.p = 0x00 := rfl
@[simp] theorem State.applyReset_pc : s.applyReset.pc = s.cfg.programStart := rfl
@[simp] theorem State.applyReset_run : s.applyReset.run = .idle := rfl
@[simp] theorem State.applyReset_inProgress : s.applyReset.inProgress = false := rfl
@[simp] theorem State.applyReset_justResumed : s.applyReset.justResumed = false := rfl
@[simp] theorem State.applyReset_intervalCount : s.applyReset.intervalCount = 0 := rfl
@[simp] theorem State.applyReset_intervalSteps : s.applyReset.intervalSteps = none := rfl
@[simp] theorem State.applyReset_serviceSteps : s.applyReset.serviceSteps = 0 := rfl
@[simp] theorem State.applyReset_mem : s.applyReset.mem = s.mem := rfl
@[simp] theorem State.applyReset_keyQueue : s.applyReset.keyQueue = s.keyQueue := rfl
@[simp] theorem State.applyReset_inbox : s.applyReset.inbox = s.inbox := rfl
@[simp] theorem State.applyReset_emitted : s.applyReset.emitted = s.emitted := rfl
@[simp] theorem State.applyReset_freeIndex : s.applyReset.freeIndex = s.freeIndex := rfl
@[simp] theorem State.applyReset_cfg : s.applyReset.cfg = s.cfg := rfl

/-! ### Reset has the canonical memory and well-formed parameters -/

theorem State.reset_mem_wf : Memory.wf State.reset.mem = true := rfl

theorem State.reset_cfg_wf : State.reset.cfg.wf = true := by decide

end Sys2Proof.Machine
end

