-- ==== Sys2Proof/Laws/Ops.lean ====
section
/-! SUPPORT. One lemma for each shared operation that says once what it can do. -/

namespace Sys2Proof.Machine

/-! ## Bytes -/

theorem readByte_writeByte_same (s : State) (a : Word) (v : Byte) (hm : Memory.wf s.mem = true) :
    (s.writeByte a v).readByte a = v := Memory.read_write_same _ _ _ hm

theorem readByte_writeByte_other (s : State) (a b : Word) (v : Byte) (h : b ≠ a) :
    (s.writeByte a v).readByte b = s.readByte b :=
  Memory.read_write_other _ _ _ _ (fun e => h (BitVec.eq_of_toNat_eq e))

theorem writeByte_wf (s : State) (a : Word) (v : Byte) (hm : Memory.wf s.mem = true) :
    Memory.wf (s.writeByte a v).mem = true := Memory.write_wf _ _ _ a.isLt hm

/-! ## The stack -/

/-- Every stack access is in the page 0x0100 to 0x01FF (10_state.md R24). -/
theorem stackAddr_toNat (sp : Byte) : (stackAddr sp).toNat = 256 + sp.toNat := by
  have h := sp.isLt
  simp only [stackAddr, BitVec.toNat_add, BitVec.toNat_setWidth]
  have h1 : (0x0100 : Word).toNat = 256 := rfl
  omega

theorem stackAddr_inj {a b : Byte} (h : stackAddr a = stackAddr b) : a = b := by
  have h' := congrArg BitVec.toNat h
  rw [stackAddr_toNat, stackAddr_toNat] at h'
  exact BitVec.eq_of_toNat_eq (by omega)

theorem push_wf (s : State) (v : Byte) (hm : Memory.wf s.mem = true) : Memory.wf (s.push v).mem = true :=
  writeByte_wf s _ v hm

/-- A pushed byte is what the next pull returns, and that pull restores SP (46_transfer_stack.md R200). -/
theorem pulled_push (s : State) (v : Byte) (hm : Memory.wf s.mem = true) : (s.push v).pulled = v := by
  have h : (s.push v).sp + 1 = s.sp := by simp
  rw [State.pulled, h]
  exact readByte_writeByte_same s _ v hm

theorem dropTop_push_sp (s : State) (v : Byte) : (s.push v).dropTop.sp = s.sp := by simp

theorem readByte_push_other (s : State) (v : Byte) (b : Word) (h : b ≠ stackAddr s.sp) :
    (s.push v).readByte b = s.readByte b := readByte_writeByte_other s _ b v h

/-! ## Operand forms -/

/-- When the zero-page pointer has an address: always, but for a pointer at 0xFF with `refuse` (40_addressing.md R134). -/
theorem zpPointer_cases (s : State) (p : Byte) :
    (∃ a, zpPointer s p = .ok a) ∨
      (zpPointer s p = .error .zeroPagePointerAtFF ∧ p = 0xFF ∧ s.cfg.zpPtrWrap = .refuse) := by
  unfold zpPointer
  split
  · rename_i hp
    split
    · exact Or.inl ⟨_, rfl⟩
    · exact Or.inl ⟨_, rfl⟩
    · rename_i hr
      exact Or.inr ⟨rfl, hp, hr⟩
  · exact Or.inl ⟨_, rfl⟩

/-- An address query answers an address or refuses the zero-page pointer at 0xFF (40_addressing.md R135). -/
theorem formAddress_cases (f : Form) (s : State) :
    (∃ a, formAddress f s = .ok a) ∨ formAddress f s = .error .zeroPagePointerAtFF := by
  cases f with
  | indx z =>
    rcases zpPointer_cases s (z + s.x) with ⟨a, h⟩ | ⟨h, -, -⟩
    · exact Or.inl ⟨a, h⟩
    · exact Or.inr h
  | indy z =>
    rcases zpPointer_cases s z with ⟨a, h⟩ | ⟨h, -, -⟩
    · exact Or.inl ⟨a + s.y.setWidth 16, by simp [formAddress, h]⟩
    · exact Or.inr (by simp [formAddress, h])
  | _ => exact Or.inl ⟨_, rfl⟩

/-- The value query of a form that is not IMM reads the byte at its effective address (40_addressing.md R120). -/
theorem formValue_of_address (f : Form) (s : State) (a : Word) (hf : ∀ v, f ≠ .imm v) (h : formAddress f s = .ok a) :
    formValue f s = .ok (s.readByte a) := by
  cases f with
  | imm v => exact absurd rfl (hf v)
  | indx z => simp only [formValue, h]
  | indy z => simp only [formValue, h]
  | _ => cases h; rfl

theorem formValue_imm (v : Byte) (s : State) : formValue (.imm v) s = .ok v := rfl

theorem withValue_ok {f : Form} {s : State} {v : Byte} (act : Byte → State → State) (h : formValue f s = .ok v) :
    withValue f s act = .next (act v (s.advance (formLength f))) := by
  rw [withValue, h]

/-- What an instruction of the value query does when it answers a next state. -/
theorem withValue_next {f : Form} {s t : State} {act : Byte → State → State} (h : withValue f s act = .next t) :
    ∃ v, formValue f s = .ok v ∧ t = act v (s.advance (formLength f)) := by
  unfold withValue at h
  split at h
  · rename_i v hv
    injection h with h
    exact ⟨v, hv, h.symm⟩
  · injection h

theorem withAddress_ok {f : Form} {s : State} {a : Word} (act : Word → State → State) (h : formAddress f s = .ok a) :
    withAddress f s act = .next (act a (s.advance (formLength f))) := by
  rw [withAddress, h]

/-- What an instruction of the address query does when it answers a next state. -/
theorem withAddress_next {f : Form} {s t : State} {act : Word → State → State} (h : withAddress f s act = .next t) :
    ∃ a, formAddress f s = .ok a ∧ t = act a (s.advance (formLength f)) := by
  unfold withAddress at h
  split at h
  · rename_i a ha
    injection h with h
    exact ⟨a, ha, h.symm⟩
  · injection h

/-! ## Blocks -/

@[simp] theorem readBlock_length (s : State) (src : Word) (n : Nat) : (s.readBlock src n).length = n := by
  induction n generalizing src with
  | zero => rfl
  | succ n ih => simp [State.readBlock, ih]

theorem readBlock_getElem (s : State) (src : Word) (n k : Nat) (h : k < (s.readBlock src n).length) :
    (s.readBlock src n)[k] = s.readByte (src + BitVec.ofNat 16 k) := by
  induction n generalizing src k with
  | zero => simp at h
  | succ n ih =>
    cases k with
    | zero => simp [State.readBlock]
    | succ k =>
      have hk : k < (s.readBlock (src + 1) n).length := by simpa [State.readBlock] using h
      have := ih (src + 1) k hk
      have he : src + 1 + BitVec.ofNat 16 k = src + BitVec.ofNat 16 (k + 1) := by
        apply BitVec.eq_of_toNat_eq
        simp only [BitVec.toNat_add, BitVec.toNat_ofNat]
        have h1 : (1 : Word).toNat = 1 := rfl
        omega
      simp only [State.readBlock, List.getElem_cons_succ, this, he]

theorem writeBlock_wf (s : State) (dst : Word) (bs : List Byte) (hm : Memory.wf s.mem = true) :
    Memory.wf (s.writeBlock dst bs).mem = true := by
  induction bs generalizing s dst with
  | nil => exact hm
  | cons b rest ih => exact ih _ _ (writeByte_wf s dst b hm)

/-- A block write changes memory and nothing else. -/
theorem writeBlock_eq (s : State) (dst : Word) (bs : List Byte) :
    s.writeBlock dst bs = { s with mem := (s.writeBlock dst bs).mem } := by
  induction bs generalizing s dst with
  | nil => rfl
  | cons b rest ih =>
    rw [State.writeBlock, ih]
    simp [State.writeByte]

/-- A block write leaves every address outside its range alone. -/
theorem readByte_writeBlock_outside (s : State) (dst b : Word) (bs : List Byte)
    (hfit : dst.toNat + bs.length ≤ 65536) (h : b.toNat < dst.toNat ∨ dst.toNat + bs.length ≤ b.toNat) :
    (s.writeBlock dst bs).readByte b = s.readByte b := by
  induction bs generalizing s dst with
  | nil => rfl
  | cons v rest ih =>
    simp only [List.length_cons] at hfit h
    have hne : b ≠ dst := by
      rintro rfl
      omega
    rw [State.writeBlock]
    cases rest with
    | nil => exact readByte_writeByte_other s dst b v hne
    | cons w r =>
      have h1 : (dst + 1).toNat = dst.toNat + 1 := by
        have : (1 : Word).toNat = 1 := rfl
        simp only [List.length_cons] at hfit
        rw [BitVec.toNat_add, this]
        omega
      rw [ih _ (dst + 1) (by rw [h1]; omega) (by rw [h1]; omega)]
      exact readByte_writeByte_other s dst b v hne

/-- A block write puts its k-th byte at the k-th address of its range. -/
theorem readByte_writeBlock_inside (s : State) (dst : Word) (bs : List Byte) (k : Nat) (hk : k < bs.length)
    (hm : Memory.wf s.mem = true) (hfit : dst.toNat + bs.length ≤ 65536) :
    (s.writeBlock dst bs).readByte (dst + BitVec.ofNat 16 k) = bs[k] := by
  have hone : (1 : Word).toNat = 1 := rfl
  induction bs generalizing s dst k with
  | nil => simp at hk
  | cons v rest ih =>
    simp only [List.length_cons] at hfit hk
    rw [State.writeBlock]
    cases k with
    | zero =>
      have h0 : dst + BitVec.ofNat 16 0 = dst := by simp
      rw [h0]
      cases rest with
      | nil => exact readByte_writeByte_same s dst v hm
      | cons w r =>
        simp only [List.length_cons] at hfit
        have h1 : (dst + 1).toNat = dst.toNat + 1 := by
          rw [BitVec.toNat_add, hone]
          omega
        rw [readByte_writeBlock_outside _ _ _ _ (by rw [h1, List.length_cons]; omega) (by rw [h1]; omega)]
        exact readByte_writeByte_same s dst v hm
    | succ k =>
      have h1 : (dst + 1).toNat = dst.toNat + 1 := by
        rw [BitVec.toNat_add, hone]
        omega
      have he : dst + BitVec.ofNat 16 (k + 1) = dst + 1 + BitVec.ofNat 16 k := by
        apply BitVec.eq_of_toNat_eq
        simp only [BitVec.toNat_add, BitVec.toNat_ofNat, hone]
        omega
      rw [he, List.getElem_cons_succ]
      exact ih (s.writeByte dst v) (dst + 1) k (by omega) (writeByte_wf s dst v hm) (by rw [h1]; omega)

/-- What a block copy does when it answers a next state (49_system_custom.md R240). -/
theorem blockCopy_next {src dst : Word} {n : Nat} {s t : State} (h : blockCopy src dst n s = .next t) :
    n ≤ s.cfg.cacheSize ∧ src.toNat + n ≤ 65536 ∧ dst.toNat + n ≤ 65536 ∧
      t = s.writeBlock dst (s.readBlock src n) := by
  unfold blockCopy at h
  split at h
  · injection h
  · split at h
    · injection h
    · injection h with h
      rename_i h1 h2
      exact ⟨by omega, by omega, by omega, h.symm⟩

theorem blockCopy_ok {src dst : Word} {n : Nat} {s : State} (h1 : n ≤ s.cfg.cacheSize) (h2 : src.toNat + n ≤ 65536)
    (h3 : dst.toNat + n ≤ 65536) : blockCopy src dst n s = .next (s.writeBlock dst (s.readBlock src n)) := by
  rw [blockCopy, if_neg (by omega), if_neg (by omega)]

/-! ## The interrupt -/

/-- The drain writes memory, empties the queue, counts its free values, and changes nothing else (60_exceptions.md R268). -/
theorem keyboardDrain_eq (s : State) :
    s.keyboardDrain =
      { s with
        mem := s.keyboardDrain.mem
        keyQueue := []
        freeIndex := s.keyboardDrain.freeIndex } := by
  cases h : s.keyQueue <;> simp [State.keyboardDrain, h]
  rw [← h]

theorem keyboardDrain_empty (s : State) (h : s.keyQueue = []) : s.keyboardDrain = s := by
  simp [State.keyboardDrain, h]

theorem keyboardDrain_wf (s : State) (hm : Memory.wf s.mem = true) : Memory.wf s.keyboardDrain.mem = true := by
  cases h : s.keyQueue
  · simpa [State.keyboardDrain, h] using hm
  · simp only [State.keyboardDrain, h]
    exact fillFree_wf _ _ _ hm

theorem keyboardDrain_read_other (s : State) (b : Word) (hb : b ∉ kbdCells s.cfg) :
    s.keyboardDrain.readByte b = s.readByte b := by
  cases h : s.keyQueue
  · simp [State.keyboardDrain, h]
  · simp only [State.keyboardDrain, h, State.readByte]
    exact read_fillFree_other _ _ _ _ (fun a ha e => hb (BitVec.eq_of_toNat_eq e ▸ ha))

/-- What interrupt entry leaves in every field (60_exceptions.md R266); `d` is the state after the drain. -/
theorem interruptEntry_eq (s : State) :
    s.interruptEntry =
      let d := s.keyboardDrain
      { d with
        run := .servicing
        mem := ((d.mem.write (stackAddr s.sp).toNat (hiByte s.pc)).write (stackAddr (s.sp - 1)).toNat (loByte s.pc)).write
          (stackAddr (s.sp - 1 - 1)).toNat s.p
        sp := s.sp - 1 - 1 - 1
        pc := d.readWord vectorAddr
        inProgress := true
        serviceSteps := 0 } := by
  cases h : s.keyQueue <;>
    simp [State.interruptEntry, State.keyboardDrain, h, State.push, State.writeByte, State.setSP, State.setPC,
      State.readWord, State.readByte]

theorem interruptEntry_wf (s : State) (hm : Memory.wf s.mem = true) : Memory.wf s.interruptEntry.mem = true := by
  rw [interruptEntry_eq]
  exact Memory.write_wf _ _ _ (stackAddr _).isLt
    (Memory.write_wf _ _ _ (stackAddr _).isLt
      (Memory.write_wf _ _ _ (stackAddr _).isLt (keyboardDrain_wf s hm)))

/-- What the return from the interrupt leaves in every field (49_system_custom.md R237). -/
theorem returnFromInterrupt_eq (s : State) :
    s.returnFromInterrupt =
      { s with
        p := s.readByte (stackAddr (s.sp + 1))
        pc := wordOf (s.readByte (stackAddr (s.sp + 1 + 1))) (s.readByte (stackAddr (s.sp + 1 + 1 + 1)))
        sp := s.sp + 1 + 1 + 1
        inProgress := false } := by
  simp only [State.returnFromInterrupt, State.pulled, State.dropTop, State.setSP, State.setP, State.setPC, State.readByte]

/-! ## Intervals -/

/-- The start of an interval: the limit, or one more interval with a full quota (60_exceptions.md R273, R274). -/
theorem startInterval_cases (s : State) :
    (s.cfg.maxIntervals ≤ s.intervalCount ∧ s.startInterval = s.halt .intervalLimit) ∨
      (s.intervalCount < s.cfg.maxIntervals ∧
        s.startInterval = { s with intervalCount := s.intervalCount + 1, intervalSteps := some 0 }) := by
  unfold State.startInterval
  split
  · rename_i h
    exact Or.inl ⟨h, rfl⟩
  · rename_i h
    exact Or.inr ⟨by omega, rfl⟩

/-- The end of an interval's steps: masked, or the interrupt taken (60_exceptions.md R264, R265). -/
theorem endInterval_cases (s : State) :
    (s.flag .i = true ∧ s.endInterval = { s with intervalSteps := none }) ∨
      (s.flag .i = false ∧ s.endInterval = { s with intervalSteps := none }.interruptEntry) := by
  cases h : s.flag .i
  · exact Or.inr ⟨rfl, by simp only [State.endInterval, State.flag] at h ⊢; simp [h]⟩
  · exact Or.inl ⟨rfl, by simp only [State.endInterval, State.flag] at h ⊢; simp [h]⟩

end Sys2Proof.Machine
end

