-- ==== Sys2Proof/Laws/Families.lean ====
section
/-! SUPPORT. For the shared operation behind each family of instructions, what it does when it answers a next state. -/

namespace Sys2Proof.Machine

theorem loadA_next {f : Form} {s t : State} (h : loadA f s = .next t) :
    ∃ v, formValue f s = .ok v ∧
      t = (s.advance (formLength f)).setA v := withValue_next h

theorem loadX_next {f : Form} {s t : State} (h : loadX f s = .next t) :
    ∃ v, formValue f s = .ok v ∧
      t = (s.advance (formLength f)).setX v := withValue_next h

theorem loadY_next {f : Form} {s t : State} (h : loadY f s = .next t) :
    ∃ v, formValue f s = .ok v ∧
      t = (s.advance (formLength f)).setY v := withValue_next h

theorem compareA_next {f : Form} {s t : State} (h : compareA f s = .next t) :
    ∃ v, formValue f s = .ok v ∧
      t = (s.advance (formLength f)).setP (compareFlags s.a v s.p) := withValue_next h

theorem compareX_next {f : Form} {s t : State} (h : compareX f s = .next t) :
    ∃ v, formValue f s = .ok v ∧
      t = (s.advance (formLength f)).setP (compareFlags s.x v s.p) := withValue_next h

theorem compareY_next {f : Form} {s t : State} (h : compareY f s = .next t) :
    ∃ v, formValue f s = .ok v ∧
      t = (s.advance (formLength f)).setP (compareFlags s.y v s.p) := withValue_next h

theorem addA_next {f : Form} {s t : State} (h : addA f s = .next t) :
    ∃ v, formValue f s = .ok v ∧
      t = ((s.advance (formLength f)).setFlag .c (adcCarry s.a v)).setA (BitVec.ofNat 8 (adcSum s.a v)) := withValue_next h

theorem subtractA_next {f : Form} {s t : State} (h : subtractA f s = .next t) :
    ∃ v, formValue f s = .ok v ∧
      t = (((s.advance (formLength f)).setFlag .c (sbcCarry s.a v (s.flag .c))).setFlag .v (sbcOverflow s.a v (s.flag .c))).setA
          (sbcByte s.a v (s.flag .c)) := withValue_next h

theorem bitTest_next {f : Form} {s t : State} (h : bitTest f s = .next t) :
    ∃ v, formValue f s = .ok v ∧
      t = (s.advance (formLength f)).setP (bitFlags v s.a s.p) := withValue_next h

theorem andA_next {f : Form} {s t : State} (h : andA f s = .next t) :
    ∃ v, formValue f s = .ok v ∧
      t = (s.advance (formLength f)).setA (s.a &&& v) := withValue_next h

theorem orA_next {f : Form} {s t : State} (h : orA f s = .next t) :
    ∃ v, formValue f s = .ok v ∧
      t = (s.advance (formLength f)).setA (s.a ||| v) := withValue_next h

theorem xorA_next {f : Form} {s t : State} (h : xorA f s = .next t) :
    ∃ v, formValue f s = .ok v ∧
      t = (s.advance (formLength f)).setA (s.a ^^^ v) := withValue_next h

theorem storeA_next {f : Form} {s t : State} (h : storeA f s = .next t) :
    ∃ ea, formAddress f s = .ok ea ∧ t = (s.advance (formLength f)).writeByte ea s.a := withAddress_next h

theorem storeX_next {f : Form} {s t : State} (h : storeX f s = .next t) :
    ∃ ea, formAddress f s = .ok ea ∧ t = (s.advance (formLength f)).writeByte ea s.x := withAddress_next h

theorem storeY_next {f : Form} {s t : State} (h : storeY f s = .next t) :
    ∃ ea, formAddress f s = .ok ea ∧ t = (s.advance (formLength f)).writeByte ea s.y := withAddress_next h

theorem incrementMem_next {f : Form} {s t : State} (h : incrementMem f s = .next t) :
    ∃ ea, formAddress f s = .ok ea ∧ t = (s.advance (formLength f)).writeByte ea (s.readByte ea + 1) := withAddress_next h

theorem decrementMem_next {f : Form} {s t : State} (h : decrementMem f s = .next t) :
    ∃ ea, formAddress f s = .ok ea ∧ t = (s.advance (formLength f)).writeByte ea (s.readByte ea - 1) := withAddress_next h

theorem shiftMem_next {op : Byte → Shifted} {f : Form} {s t : State} (h : shiftMem op f s = .next t) :
    ∃ ea, formAddress f s = .ok ea ∧
      t = ((s.advance (formLength f)).setFlag .c (op (s.readByte ea)).carry).writeByte ea (op (s.readByte ea)).byte :=
  withAddress_next h

theorem shiftAcc_next {op : Byte → Shifted} {s t : State} (h : shiftAcc op s = .next t) :
    t = ((s.advance 1).setFlag .c (op s.a).carry).setA (op s.a).byte := (Host.Outcome.next.inj h).symm

theorem branchIf_next {taken : Bool} {off : Byte} {s t : State} (h : branchIf taken off s = .next t) :
    (taken = true ∧ t = s.setPC (relTarget s off)) ∨ (taken = false ∧ t = s.advance 2) := by
  cases taken
  · exact Or.inr ⟨rfl, (Host.Outcome.next.inj h).symm⟩
  · exact Or.inl ⟨rfl, (Host.Outcome.next.inj h).symm⟩

theorem putOneFlag_next {g : Flag} {e : Bool} {s t : State} (h : putOneFlag g e s = .next t) :
    t = (s.advance 1).setFlag g e := (Host.Outcome.next.inj h).symm

end Sys2Proof.Machine
end

