-- ==== Sys2Proof/Laws/PerInstr.lean ====
section
/-! SUPPORT. Statements for all instructions, one lemma for each constructor. -/

namespace Sys2Proof.Laws

/-- The encoding of an instruction has the length of its row (30_encoding.md R93). -/
def EncodedLength.Statement (i : Instr) : Prop := ∀ c : Config, (encode c i).length = i.length

theorem EncodedLength.ldaImm (v : Byte) : EncodedLength.Statement (.ldaImm v) := fun _ => rfl
theorem EncodedLength.ldaZp (z : Byte) : EncodedLength.Statement (.ldaZp z) := fun _ => rfl
theorem EncodedLength.ldaZpx (z : Byte) : EncodedLength.Statement (.ldaZpx z) := fun _ => rfl
theorem EncodedLength.ldaAbs (a : Word) : EncodedLength.Statement (.ldaAbs a) := fun _ => rfl
theorem EncodedLength.ldaAbsx (a : Word) : EncodedLength.Statement (.ldaAbsx a) := fun _ => rfl
theorem EncodedLength.ldaAbsy (a : Word) : EncodedLength.Statement (.ldaAbsy a) := fun _ => rfl
theorem EncodedLength.ldaIndx (z : Byte) : EncodedLength.Statement (.ldaIndx z) := fun _ => rfl
theorem EncodedLength.ldaIndy (z : Byte) : EncodedLength.Statement (.ldaIndy z) := fun _ => rfl
theorem EncodedLength.ldxImm (v : Byte) : EncodedLength.Statement (.ldxImm v) := fun _ => rfl
theorem EncodedLength.ldxZp (z : Byte) : EncodedLength.Statement (.ldxZp z) := fun _ => rfl
theorem EncodedLength.ldxZpy (z : Byte) : EncodedLength.Statement (.ldxZpy z) := fun _ => rfl
theorem EncodedLength.ldxAbs (a : Word) : EncodedLength.Statement (.ldxAbs a) := fun _ => rfl
theorem EncodedLength.ldxAbsy (a : Word) : EncodedLength.Statement (.ldxAbsy a) := fun _ => rfl
theorem EncodedLength.ldyImm (v : Byte) : EncodedLength.Statement (.ldyImm v) := fun _ => rfl
theorem EncodedLength.ldyZp (z : Byte) : EncodedLength.Statement (.ldyZp z) := fun _ => rfl
theorem EncodedLength.ldyZpx (z : Byte) : EncodedLength.Statement (.ldyZpx z) := fun _ => rfl
theorem EncodedLength.ldyAbs (a : Word) : EncodedLength.Statement (.ldyAbs a) := fun _ => rfl
theorem EncodedLength.ldyAbsx (a : Word) : EncodedLength.Statement (.ldyAbsx a) := fun _ => rfl
theorem EncodedLength.staZp (z : Byte) : EncodedLength.Statement (.staZp z) := fun _ => rfl
theorem EncodedLength.staZpx (z : Byte) : EncodedLength.Statement (.staZpx z) := fun _ => rfl
theorem EncodedLength.staAbs (a : Word) : EncodedLength.Statement (.staAbs a) := fun _ => rfl
theorem EncodedLength.staAbsx (a : Word) : EncodedLength.Statement (.staAbsx a) := fun _ => rfl
theorem EncodedLength.staAbsy (a : Word) : EncodedLength.Statement (.staAbsy a) := fun _ => rfl
theorem EncodedLength.staIndx (z : Byte) : EncodedLength.Statement (.staIndx z) := fun _ => rfl
theorem EncodedLength.staIndy (z : Byte) : EncodedLength.Statement (.staIndy z) := fun _ => rfl
theorem EncodedLength.stxZp (z : Byte) : EncodedLength.Statement (.stxZp z) := fun _ => rfl
theorem EncodedLength.stxZpy (z : Byte) : EncodedLength.Statement (.stxZpy z) := fun _ => rfl
theorem EncodedLength.stxAbs (a : Word) : EncodedLength.Statement (.stxAbs a) := fun _ => rfl
theorem EncodedLength.styZp (z : Byte) : EncodedLength.Statement (.styZp z) := fun _ => rfl
theorem EncodedLength.styZpx (z : Byte) : EncodedLength.Statement (.styZpx z) := fun _ => rfl
theorem EncodedLength.styAbs (a : Word) : EncodedLength.Statement (.styAbs a) := fun _ => rfl
theorem EncodedLength.cmpImm (v : Byte) : EncodedLength.Statement (.cmpImm v) := fun _ => rfl
theorem EncodedLength.cmpZp (z : Byte) : EncodedLength.Statement (.cmpZp z) := fun _ => rfl
theorem EncodedLength.cmpZpx (z : Byte) : EncodedLength.Statement (.cmpZpx z) := fun _ => rfl
theorem EncodedLength.cmpAbs (a : Word) : EncodedLength.Statement (.cmpAbs a) := fun _ => rfl
theorem EncodedLength.cmpAbsx (a : Word) : EncodedLength.Statement (.cmpAbsx a) := fun _ => rfl
theorem EncodedLength.cmpAbsy (a : Word) : EncodedLength.Statement (.cmpAbsy a) := fun _ => rfl
theorem EncodedLength.cmpIndx (z : Byte) : EncodedLength.Statement (.cmpIndx z) := fun _ => rfl
theorem EncodedLength.cmpIndy (z : Byte) : EncodedLength.Statement (.cmpIndy z) := fun _ => rfl
theorem EncodedLength.cpxImm (v : Byte) : EncodedLength.Statement (.cpxImm v) := fun _ => rfl
theorem EncodedLength.cpxZp (z : Byte) : EncodedLength.Statement (.cpxZp z) := fun _ => rfl
theorem EncodedLength.cpxAbs (a : Word) : EncodedLength.Statement (.cpxAbs a) := fun _ => rfl
theorem EncodedLength.cpyImm (v : Byte) : EncodedLength.Statement (.cpyImm v) := fun _ => rfl
theorem EncodedLength.cpyZp (z : Byte) : EncodedLength.Statement (.cpyZp z) := fun _ => rfl
theorem EncodedLength.cpyAbs (a : Word) : EncodedLength.Statement (.cpyAbs a) := fun _ => rfl
theorem EncodedLength.adcImm (v : Byte) : EncodedLength.Statement (.adcImm v) := fun _ => rfl
theorem EncodedLength.adcZp (z : Byte) : EncodedLength.Statement (.adcZp z) := fun _ => rfl
theorem EncodedLength.adcZpx (z : Byte) : EncodedLength.Statement (.adcZpx z) := fun _ => rfl
theorem EncodedLength.adcAbs (a : Word) : EncodedLength.Statement (.adcAbs a) := fun _ => rfl
theorem EncodedLength.adcAbsx (a : Word) : EncodedLength.Statement (.adcAbsx a) := fun _ => rfl
theorem EncodedLength.adcAbsy (a : Word) : EncodedLength.Statement (.adcAbsy a) := fun _ => rfl
theorem EncodedLength.adcIndx (z : Byte) : EncodedLength.Statement (.adcIndx z) := fun _ => rfl
theorem EncodedLength.adcIndy (z : Byte) : EncodedLength.Statement (.adcIndy z) := fun _ => rfl
theorem EncodedLength.sbcImm (v : Byte) : EncodedLength.Statement (.sbcImm v) := fun _ => rfl
theorem EncodedLength.sbcZp (z : Byte) : EncodedLength.Statement (.sbcZp z) := fun _ => rfl
theorem EncodedLength.sbcZpx (z : Byte) : EncodedLength.Statement (.sbcZpx z) := fun _ => rfl
theorem EncodedLength.sbcAbs (a : Word) : EncodedLength.Statement (.sbcAbs a) := fun _ => rfl
theorem EncodedLength.sbcAbsx (a : Word) : EncodedLength.Statement (.sbcAbsx a) := fun _ => rfl
theorem EncodedLength.sbcAbsy (a : Word) : EncodedLength.Statement (.sbcAbsy a) := fun _ => rfl
theorem EncodedLength.sbcIndx (z : Byte) : EncodedLength.Statement (.sbcIndx z) := fun _ => rfl
theorem EncodedLength.sbcIndy (z : Byte) : EncodedLength.Statement (.sbcIndy z) := fun _ => rfl
theorem EncodedLength.aslAcc : EncodedLength.Statement (.aslAcc) := fun _ => rfl
theorem EncodedLength.aslZp (z : Byte) : EncodedLength.Statement (.aslZp z) := fun _ => rfl
theorem EncodedLength.aslZpx (z : Byte) : EncodedLength.Statement (.aslZpx z) := fun _ => rfl
theorem EncodedLength.aslAbs (a : Word) : EncodedLength.Statement (.aslAbs a) := fun _ => rfl
theorem EncodedLength.aslAbsx (a : Word) : EncodedLength.Statement (.aslAbsx a) := fun _ => rfl
theorem EncodedLength.lsrAcc : EncodedLength.Statement (.lsrAcc) := fun _ => rfl
theorem EncodedLength.lsrZp (z : Byte) : EncodedLength.Statement (.lsrZp z) := fun _ => rfl
theorem EncodedLength.lsrZpx (z : Byte) : EncodedLength.Statement (.lsrZpx z) := fun _ => rfl
theorem EncodedLength.lsrAbs (a : Word) : EncodedLength.Statement (.lsrAbs a) := fun _ => rfl
theorem EncodedLength.lsrAbsx (a : Word) : EncodedLength.Statement (.lsrAbsx a) := fun _ => rfl
theorem EncodedLength.rolAcc : EncodedLength.Statement (.rolAcc) := fun _ => rfl
theorem EncodedLength.rolZp (z : Byte) : EncodedLength.Statement (.rolZp z) := fun _ => rfl
theorem EncodedLength.rolZpx (z : Byte) : EncodedLength.Statement (.rolZpx z) := fun _ => rfl
theorem EncodedLength.rolAbs (a : Word) : EncodedLength.Statement (.rolAbs a) := fun _ => rfl
theorem EncodedLength.rolAbsx (a : Word) : EncodedLength.Statement (.rolAbsx a) := fun _ => rfl
theorem EncodedLength.rorAcc : EncodedLength.Statement (.rorAcc) := fun _ => rfl
theorem EncodedLength.rorZp (z : Byte) : EncodedLength.Statement (.rorZp z) := fun _ => rfl
theorem EncodedLength.rorZpx (z : Byte) : EncodedLength.Statement (.rorZpx z) := fun _ => rfl
theorem EncodedLength.rorAbs (a : Word) : EncodedLength.Statement (.rorAbs a) := fun _ => rfl
theorem EncodedLength.rorAbsx (a : Word) : EncodedLength.Statement (.rorAbsx a) := fun _ => rfl
theorem EncodedLength.bitZp (z : Byte) : EncodedLength.Statement (.bitZp z) := fun _ => rfl
theorem EncodedLength.bitAbs (a : Word) : EncodedLength.Statement (.bitAbs a) := fun _ => rfl
theorem EncodedLength.andImm (v : Byte) : EncodedLength.Statement (.andImm v) := fun _ => rfl
theorem EncodedLength.andZp (z : Byte) : EncodedLength.Statement (.andZp z) := fun _ => rfl
theorem EncodedLength.andZpx (z : Byte) : EncodedLength.Statement (.andZpx z) := fun _ => rfl
theorem EncodedLength.andAbs (a : Word) : EncodedLength.Statement (.andAbs a) := fun _ => rfl
theorem EncodedLength.andAbsx (a : Word) : EncodedLength.Statement (.andAbsx a) := fun _ => rfl
theorem EncodedLength.andAbsy (a : Word) : EncodedLength.Statement (.andAbsy a) := fun _ => rfl
theorem EncodedLength.andIndx (z : Byte) : EncodedLength.Statement (.andIndx z) := fun _ => rfl
theorem EncodedLength.andIndy (z : Byte) : EncodedLength.Statement (.andIndy z) := fun _ => rfl
theorem EncodedLength.oraImm (v : Byte) : EncodedLength.Statement (.oraImm v) := fun _ => rfl
theorem EncodedLength.oraZp (z : Byte) : EncodedLength.Statement (.oraZp z) := fun _ => rfl
theorem EncodedLength.oraZpx (z : Byte) : EncodedLength.Statement (.oraZpx z) := fun _ => rfl
theorem EncodedLength.oraAbs (a : Word) : EncodedLength.Statement (.oraAbs a) := fun _ => rfl
theorem EncodedLength.oraAbsx (a : Word) : EncodedLength.Statement (.oraAbsx a) := fun _ => rfl
theorem EncodedLength.oraAbsy (a : Word) : EncodedLength.Statement (.oraAbsy a) := fun _ => rfl
theorem EncodedLength.oraIndx (z : Byte) : EncodedLength.Statement (.oraIndx z) := fun _ => rfl
theorem EncodedLength.oraIndy (z : Byte) : EncodedLength.Statement (.oraIndy z) := fun _ => rfl
theorem EncodedLength.eorImm (v : Byte) : EncodedLength.Statement (.eorImm v) := fun _ => rfl
theorem EncodedLength.eorZp (z : Byte) : EncodedLength.Statement (.eorZp z) := fun _ => rfl
theorem EncodedLength.eorZpx (z : Byte) : EncodedLength.Statement (.eorZpx z) := fun _ => rfl
theorem EncodedLength.eorAbs (a : Word) : EncodedLength.Statement (.eorAbs a) := fun _ => rfl
theorem EncodedLength.eorAbsx (a : Word) : EncodedLength.Statement (.eorAbsx a) := fun _ => rfl
theorem EncodedLength.eorAbsy (a : Word) : EncodedLength.Statement (.eorAbsy a) := fun _ => rfl
theorem EncodedLength.eorIndx (z : Byte) : EncodedLength.Statement (.eorIndx z) := fun _ => rfl
theorem EncodedLength.eorIndy (z : Byte) : EncodedLength.Statement (.eorIndy z) := fun _ => rfl
theorem EncodedLength.incZp (z : Byte) : EncodedLength.Statement (.incZp z) := fun _ => rfl
theorem EncodedLength.incZpx (z : Byte) : EncodedLength.Statement (.incZpx z) := fun _ => rfl
theorem EncodedLength.incAbs (a : Word) : EncodedLength.Statement (.incAbs a) := fun _ => rfl
theorem EncodedLength.incAbsx (a : Word) : EncodedLength.Statement (.incAbsx a) := fun _ => rfl
theorem EncodedLength.decZp (z : Byte) : EncodedLength.Statement (.decZp z) := fun _ => rfl
theorem EncodedLength.decZpx (z : Byte) : EncodedLength.Statement (.decZpx z) := fun _ => rfl
theorem EncodedLength.decAbs (a : Word) : EncodedLength.Statement (.decAbs a) := fun _ => rfl
theorem EncodedLength.decAbsx (a : Word) : EncodedLength.Statement (.decAbsx a) := fun _ => rfl
theorem EncodedLength.inx : EncodedLength.Statement (.inx) := fun _ => rfl
theorem EncodedLength.iny : EncodedLength.Statement (.iny) := fun _ => rfl
theorem EncodedLength.dex : EncodedLength.Statement (.dex) := fun _ => rfl
theorem EncodedLength.dey : EncodedLength.Statement (.dey) := fun _ => rfl
theorem EncodedLength.tax : EncodedLength.Statement (.tax) := fun _ => rfl
theorem EncodedLength.tay : EncodedLength.Statement (.tay) := fun _ => rfl
theorem EncodedLength.txa : EncodedLength.Statement (.txa) := fun _ => rfl
theorem EncodedLength.tya : EncodedLength.Statement (.tya) := fun _ => rfl
theorem EncodedLength.tsx : EncodedLength.Statement (.tsx) := fun _ => rfl
theorem EncodedLength.txs : EncodedLength.Statement (.txs) := fun _ => rfl
theorem EncodedLength.pha : EncodedLength.Statement (.pha) := fun _ => rfl
theorem EncodedLength.pla : EncodedLength.Statement (.pla) := fun _ => rfl
theorem EncodedLength.php : EncodedLength.Statement (.php) := fun _ => rfl
theorem EncodedLength.plp : EncodedLength.Statement (.plp) := fun _ => rfl
theorem EncodedLength.bpl (off : Byte) : EncodedLength.Statement (.bpl off) := fun _ => rfl
theorem EncodedLength.bmi (off : Byte) : EncodedLength.Statement (.bmi off) := fun _ => rfl
theorem EncodedLength.bvc (off : Byte) : EncodedLength.Statement (.bvc off) := fun _ => rfl
theorem EncodedLength.bvs (off : Byte) : EncodedLength.Statement (.bvs off) := fun _ => rfl
theorem EncodedLength.bcc (off : Byte) : EncodedLength.Statement (.bcc off) := fun _ => rfl
theorem EncodedLength.bcs (off : Byte) : EncodedLength.Statement (.bcs off) := fun _ => rfl
theorem EncodedLength.bne (off : Byte) : EncodedLength.Statement (.bne off) := fun _ => rfl
theorem EncodedLength.beq (off : Byte) : EncodedLength.Statement (.beq off) := fun _ => rfl
theorem EncodedLength.jmpAbs (a : Word) : EncodedLength.Statement (.jmpAbs a) := fun _ => rfl
theorem EncodedLength.jmpInd (a : Word) : EncodedLength.Statement (.jmpInd a) := fun _ => rfl
theorem EncodedLength.jsr (a : Word) : EncodedLength.Statement (.jsr a) := fun _ => rfl
theorem EncodedLength.rts : EncodedLength.Statement (.rts) := fun _ => rfl
theorem EncodedLength.clc : EncodedLength.Statement (.clc) := fun _ => rfl
theorem EncodedLength.sec : EncodedLength.Statement (.sec) := fun _ => rfl
theorem EncodedLength.cli : EncodedLength.Statement (.cli) := fun _ => rfl
theorem EncodedLength.sei : EncodedLength.Statement (.sei) := fun _ => rfl
theorem EncodedLength.clv : EncodedLength.Statement (.clv) := fun _ => rfl
theorem EncodedLength.cld : EncodedLength.Statement (.cld) := fun _ => rfl
theorem EncodedLength.sed : EncodedLength.Statement (.sed) := fun _ => rfl
theorem EncodedLength.nop : EncodedLength.Statement (.nop) := fun _ => rfl
theorem EncodedLength.brk : EncodedLength.Statement (.brk) := fun _ => rfl
theorem EncodedLength.err : EncodedLength.Statement (.err) := fun _ => rfl
theorem EncodedLength.rti : EncodedLength.Statement (.rti) := fun _ => rfl
theorem EncodedLength.cbl (a : Word) (len : Byte) : EncodedLength.Statement (.cbl a len) := fun _ => rfl
theorem EncodedLength.cbs (a : Word) (len : Byte) : EncodedLength.Statement (.cbs a len) := fun _ => rfl

end Sys2Proof.Laws
end

