-- ==== Sys2Proof/Laws/Step.lean ====
section
/-! SUPPORT. What one step can do, said once. -/

namespace Sys2Proof.Machine

/-- `ExecuteOne` runs the decoded instruction or raises UnknownOpcode (30_encoding.md R92, R95). -/
theorem executeOne_cases (s : State) :
    (∃ i rest, decode s.cfg s.fetchBytes = .ok (i, rest) ∧ executeOne s = exec i s) ∨
      ((∀ r, decode s.cfg s.fetchBytes ≠ .ok r) ∧
        executeOne s = .next (s.raiseFatal (.unknownOpcode s.pc (s.readByte s.pc)))) := by
  unfold executeOne
  cases h : decode s.cfg s.fetchBytes with
  | ok r =>
    obtain ⟨i, rest⟩ := r
    exact Or.inl ⟨i, rest, rfl, rfl⟩
  | error e => exact Or.inr ⟨fun r hr => (nomatch hr), rfl⟩

/-- An inversion of the spec's `Step()` (60_exceptions.md R260). -/
theorem instructionStep_next {s u : State} {rep : StepReport} (h : instructionStep s = .next (u, rep)) :
    (s.suspendHere = true ∧ u = s.consultDebug ∧ rep = .noInstruction) ∨
      (s.suspendHere = false ∧ ∃ t, executeOne s.consultDebug = .next t ∧
        ((t.isHalted = true ∧ u = t ∧ rep = .raised) ∨
          (t.isHalted = false ∧ u = { t with justResumed := false } ∧ rep = .executed))) := by
  unfold instructionStep at h
  split at h
  · rename_i hs
    injection h with h
    injection h with h1 h2
    exact Or.inl ⟨hs, h1.symm, h2.symm⟩
  · rename_i hs
    have hs' : s.suspendHere = false := by simpa using hs
    split at h
    · rename_i t ht
      split at h
      · rename_i hh
        injection h with h
        injection h with h1 h2
        exact Or.inr ⟨hs', t, ht, Or.inl ⟨hh, h1.symm, h2.symm⟩⟩
      · rename_i hh
        injection h with h
        injection h with h1 h2
        exact Or.inr ⟨hs', t, ht, Or.inr ⟨by simpa using hh, h1.symm, h2.symm⟩⟩
    · injection h
    · injection h

/-- Everything one action of the controller can answer (60_exceptions.md R259, R267, R273). -/
theorem controllerAction_next {s t : State} (h : controllerAction s = .next t) :
    ((s.run = .idle ∨ s.run = .suspended) ∧ t = s) ∨
      (s.run = .running ∧ s.intervalSteps = none ∧ t = s.startInterval) ∨
      (∃ k, s.run = .running ∧ s.intervalSteps = some k ∧ k < s.cfg.stepQuota ∧ intervalStep k s = .next t) ∨
      (∃ k, s.run = .running ∧ s.intervalSteps = some k ∧ s.cfg.stepQuota ≤ k ∧ t = s.endInterval) ∨
      (s.run = .servicing ∧ s.inProgress = true ∧ s.serviceSteps < s.cfg.intStepBudget ∧ serviceStep s = .next t) ∨
      (s.run = .servicing ∧ s.inProgress = true ∧ s.cfg.intStepBudget ≤ s.serviceSteps ∧ t = s.halt .runawayInterrupt) ∨
      (s.run = .servicing ∧ s.inProgress = false ∧ t = s.endService) := by
  unfold controllerAction at h
  cases hr : s.run with
  | idle => simp only [hr] at h; injection h with h; simp [h]
  | suspended => simp only [hr] at h; injection h with h; simp [h]
  | halted r => simp only [hr] at h; injection h
  | running =>
    simp only [hr] at h
    cases hk : s.intervalSteps with
    | none => simp only [hk] at h; injection h with h; simp [h]
    | some k =>
      simp only [hk] at h
      split at h
      · rename_i hlt
        exact Or.inr (Or.inr (Or.inl ⟨k, rfl, rfl, hlt, h⟩))
      · rename_i hge
        injection h with h
        exact Or.inr (Or.inr (Or.inr (Or.inl ⟨k, rfl, rfl, by omega, h.symm⟩)))
  | servicing =>
    simp only [hr] at h
    split at h
    · rename_i hp
      split at h
      · rename_i hlt
        exact Or.inr (Or.inr (Or.inr (Or.inr (Or.inl ⟨rfl, hp, hlt, h⟩))))
      · rename_i hge
        injection h with h
        exact Or.inr (Or.inr (Or.inr (Or.inr (Or.inr (Or.inl ⟨rfl, hp, by omega, h.symm⟩)))))
    · rename_i hp
      injection h with h
      exact Or.inr (Or.inr (Or.inr (Or.inr (Or.inr (Or.inr ⟨rfl, by simpa using hp, h.symm⟩)))))

/-- A step takes the input at the head of the inbox or is one action of the controller (60_exceptions.md R285). -/
theorem step_next {s t : State} (h : step s = .next t) :
    (∃ i rest, s.inbox = i :: rest ∧ s.mayTake i = true ∧ t = { s with inbox := rest }.takeInput i) ∨
      ((∀ i rest, s.inbox = i :: rest → s.mayTake i = false) ∧ controllerAction s = .next t) := by
  unfold step controllerStep at h
  cases hi : s.inbox with
  | nil =>
    simp only [hi] at h
    exact Or.inr ⟨fun i rest e => (nomatch e), h⟩
  | cons i rest =>
    simp only [hi] at h
    split at h
    · rename_i hm
      injection h with h
      exact Or.inl ⟨i, rest, rfl, hm, h.symm⟩
    · rename_i hm
      refine Or.inr ⟨?_, h⟩
      intro j r e
      injection e with e1 e2
      subst e1
      simpa using hm

/-- With no input waiting a step is one action of the controller. -/
theorem step_of_inbox_nil {s : State} (h : s.inbox = []) : step s = controllerAction s := by
  simp only [step, controllerStep, h]

end Sys2Proof.Machine
end

