-- ==== Sys2Proof/Tests/Slice0.lean ====
section
/-! SUPPORT. The model's own tests: ill-formed terms that the checks refuse, every constructor's decoding from a word
written out from the spec's encodings, one step of every family on the vectors of 95_test_vectors.md, and the controller. -/

namespace Sys2Proof.Tests

open Sys2Proof.Machine

/-! ## WellFormed refuses an ill-formed term for each check -/

theorem test_default_config_wf : Config.default.wf = true ∧ Config.full.wf = true := by decide

theorem test_wf_refuses_equal_custom_opcodes : { Config.default with opcCbs := 0x03 }.customDistinct = false := by decide

theorem test_wf_refuses_documented_custom_opcode :
    { Config.default with opcErr := 0xEA }.customUndocumented = false ∧
      { Config.default with opcCbl := 0x00 }.customUndocumented = false := by decide

theorem test_wf_refuses_empty_cache : { Config.default with cacheSize := 0 }.cacheFits = false := by decide

theorem test_wf_refuses_cache_past_end :
    { Config.default with cacheStart := 0xFFF0 }.cacheFits = false ∧
      { Config.default with cacheStart := 0xFFC0 }.cacheFits = true := by decide

theorem test_wf_refuses_zero_quota : { Config.default with stepQuota := 0 }.countsPositive = false := by decide

theorem test_wf_refuses_zero_budget : { Config.default with intStepBudget := 0 }.countsPositive = false := by decide

theorem test_wf_refuses_long_cache : { Config.default with cacheSize := 257 }.cacheFits = false := by decide

theorem test_wf_refuses_zero_interval_limit : { Config.default with maxIntervals := 0 }.countsPositive = false := by decide

theorem test_wf_refuses_every_equal_pair :
    { Config.default with opcErr := 0x03 }.customDistinct = false ∧
      { Config.default with opcErr := 0x13 }.customDistinct = false := by decide

theorem test_wf_refuses_keyboard_past_end : { Config.default with kbdDataStart := 0xFFFF }.keyboardFits = false := by decide

theorem test_wf_refuses_compat_instruction :
    (Instr.nop).wf Config.default = false ∧ (Instr.nop).wf Config.full = true ∧ (Instr.brk).wf Config.default = true := by
  decide

/-! ## Decoding: bytes written out from 30_encoding.md R90 and R98 -/

theorem test_decode_lda :
    decodeTableWord 16 0x9CA9 = some (.ldaImm 0x9C) ∧
    decodeTableWord 16 0x9CA5 = some (.ldaZp 0x9C) ∧
    decodeTableWord 16 0x9CB5 = some (.ldaZpx 0x9C) ∧
    decodeTableWord 24 0xD234AD = some (.ldaAbs 0xD234) ∧
    decodeTableWord 24 0xD234BD = some (.ldaAbsx 0xD234) ∧
    decodeTableWord 24 0xD234B9 = some (.ldaAbsy 0xD234) ∧
    decodeTableWord 16 0x9CA1 = some (.ldaIndx 0x9C) ∧
    decodeTableWord 16 0x9CB1 = some (.ldaIndy 0x9C) := by
  decide +kernel

theorem test_decode_ldx_ldy :
    decodeTableWord 16 0x9CA2 = some (.ldxImm 0x9C) ∧
    decodeTableWord 16 0x9CA6 = some (.ldxZp 0x9C) ∧
    decodeTableWord 16 0x9CB6 = some (.ldxZpy 0x9C) ∧
    decodeTableWord 24 0xD234AE = some (.ldxAbs 0xD234) ∧
    decodeTableWord 24 0xD234BE = some (.ldxAbsy 0xD234) ∧
    decodeTableWord 16 0x9CA0 = some (.ldyImm 0x9C) ∧
    decodeTableWord 16 0x9CA4 = some (.ldyZp 0x9C) ∧
    decodeTableWord 16 0x9CB4 = some (.ldyZpx 0x9C) ∧
    decodeTableWord 24 0xD234AC = some (.ldyAbs 0xD234) ∧
    decodeTableWord 24 0xD234BC = some (.ldyAbsx 0xD234) := by
  decide +kernel

theorem test_decode_sta :
    decodeTableWord 16 0x9C85 = some (.staZp 0x9C) ∧
    decodeTableWord 16 0x9C95 = some (.staZpx 0x9C) ∧
    decodeTableWord 24 0xD2348D = some (.staAbs 0xD234) ∧
    decodeTableWord 24 0xD2349D = some (.staAbsx 0xD234) ∧
    decodeTableWord 24 0xD23499 = some (.staAbsy 0xD234) ∧
    decodeTableWord 16 0x9C81 = some (.staIndx 0x9C) ∧
    decodeTableWord 16 0x9C91 = some (.staIndy 0x9C) := by
  decide +kernel

theorem test_decode_stx_sty :
    decodeTableWord 16 0x9C86 = some (.stxZp 0x9C) ∧
    decodeTableWord 16 0x9C96 = some (.stxZpy 0x9C) ∧
    decodeTableWord 24 0xD2348E = some (.stxAbs 0xD234) ∧
    decodeTableWord 16 0x9C84 = some (.styZp 0x9C) ∧
    decodeTableWord 16 0x9C94 = some (.styZpx 0x9C) ∧
    decodeTableWord 24 0xD2348C = some (.styAbs 0xD234) := by
  decide +kernel

theorem test_decode_cmp :
    decodeTableWord 16 0x9CC9 = some (.cmpImm 0x9C) ∧
    decodeTableWord 16 0x9CC5 = some (.cmpZp 0x9C) ∧
    decodeTableWord 16 0x9CD5 = some (.cmpZpx 0x9C) ∧
    decodeTableWord 24 0xD234CD = some (.cmpAbs 0xD234) ∧
    decodeTableWord 24 0xD234DD = some (.cmpAbsx 0xD234) ∧
    decodeTableWord 24 0xD234D9 = some (.cmpAbsy 0xD234) ∧
    decodeTableWord 16 0x9CC1 = some (.cmpIndx 0x9C) ∧
    decodeTableWord 16 0x9CD1 = some (.cmpIndy 0x9C) := by
  decide +kernel

theorem test_decode_cpx_cpy :
    decodeTableWord 16 0x9CE0 = some (.cpxImm 0x9C) ∧
    decodeTableWord 16 0x9CE4 = some (.cpxZp 0x9C) ∧
    decodeTableWord 24 0xD234EC = some (.cpxAbs 0xD234) ∧
    decodeTableWord 16 0x9CC0 = some (.cpyImm 0x9C) ∧
    decodeTableWord 16 0x9CC4 = some (.cpyZp 0x9C) ∧
    decodeTableWord 24 0xD234CC = some (.cpyAbs 0xD234) := by
  decide +kernel

theorem test_decode_adc :
    decodeTableWord 16 0x9C69 = some (.adcImm 0x9C) ∧
    decodeTableWord 16 0x9C65 = some (.adcZp 0x9C) ∧
    decodeTableWord 16 0x9C75 = some (.adcZpx 0x9C) ∧
    decodeTableWord 24 0xD2346D = some (.adcAbs 0xD234) ∧
    decodeTableWord 24 0xD2347D = some (.adcAbsx 0xD234) ∧
    decodeTableWord 24 0xD23479 = some (.adcAbsy 0xD234) ∧
    decodeTableWord 16 0x9C61 = some (.adcIndx 0x9C) ∧
    decodeTableWord 16 0x9C71 = some (.adcIndy 0x9C) := by
  decide +kernel

theorem test_decode_sbc :
    decodeTableWord 16 0x9CE9 = some (.sbcImm 0x9C) ∧
    decodeTableWord 16 0x9CE5 = some (.sbcZp 0x9C) ∧
    decodeTableWord 16 0x9CF5 = some (.sbcZpx 0x9C) ∧
    decodeTableWord 24 0xD234ED = some (.sbcAbs 0xD234) ∧
    decodeTableWord 24 0xD234FD = some (.sbcAbsx 0xD234) ∧
    decodeTableWord 24 0xD234F9 = some (.sbcAbsy 0xD234) ∧
    decodeTableWord 16 0x9CE1 = some (.sbcIndx 0x9C) ∧
    decodeTableWord 16 0x9CF1 = some (.sbcIndy 0x9C) := by
  decide +kernel

theorem test_decode_asl_lsr :
    decodeTableWord 8 0x0A = some .aslAcc ∧
    decodeTableWord 16 0x9C06 = some (.aslZp 0x9C) ∧
    decodeTableWord 16 0x9C16 = some (.aslZpx 0x9C) ∧
    decodeTableWord 24 0xD2340E = some (.aslAbs 0xD234) ∧
    decodeTableWord 24 0xD2341E = some (.aslAbsx 0xD234) ∧
    decodeTableWord 8 0x4A = some .lsrAcc ∧
    decodeTableWord 16 0x9C46 = some (.lsrZp 0x9C) ∧
    decodeTableWord 16 0x9C56 = some (.lsrZpx 0x9C) ∧
    decodeTableWord 24 0xD2344E = some (.lsrAbs 0xD234) ∧
    decodeTableWord 24 0xD2345E = some (.lsrAbsx 0xD234) := by
  decide +kernel

theorem test_decode_rol_ror :
    decodeTableWord 8 0x2A = some .rolAcc ∧
    decodeTableWord 16 0x9C26 = some (.rolZp 0x9C) ∧
    decodeTableWord 16 0x9C36 = some (.rolZpx 0x9C) ∧
    decodeTableWord 24 0xD2342E = some (.rolAbs 0xD234) ∧
    decodeTableWord 24 0xD2343E = some (.rolAbsx 0xD234) ∧
    decodeTableWord 8 0x6A = some .rorAcc ∧
    decodeTableWord 16 0x9C66 = some (.rorZp 0x9C) ∧
    decodeTableWord 16 0x9C76 = some (.rorZpx 0x9C) ∧
    decodeTableWord 24 0xD2346E = some (.rorAbs 0xD234) ∧
    decodeTableWord 24 0xD2347E = some (.rorAbsx 0xD234) := by
  decide +kernel

theorem test_decode_bit_and :
    decodeTableWord 16 0x9C24 = some (.bitZp 0x9C) ∧
    decodeTableWord 24 0xD2342C = some (.bitAbs 0xD234) ∧
    decodeTableWord 16 0x9C29 = some (.andImm 0x9C) ∧
    decodeTableWord 16 0x9C25 = some (.andZp 0x9C) ∧
    decodeTableWord 16 0x9C35 = some (.andZpx 0x9C) ∧
    decodeTableWord 24 0xD2342D = some (.andAbs 0xD234) ∧
    decodeTableWord 24 0xD2343D = some (.andAbsx 0xD234) ∧
    decodeTableWord 24 0xD23439 = some (.andAbsy 0xD234) ∧
    decodeTableWord 16 0x9C21 = some (.andIndx 0x9C) ∧
    decodeTableWord 16 0x9C31 = some (.andIndy 0x9C) := by
  decide +kernel

theorem test_decode_ora_eor :
    decodeTableWord 16 0x9C09 = some (.oraImm 0x9C) ∧
    decodeTableWord 16 0x9C05 = some (.oraZp 0x9C) ∧
    decodeTableWord 16 0x9C15 = some (.oraZpx 0x9C) ∧
    decodeTableWord 24 0xD2340D = some (.oraAbs 0xD234) ∧
    decodeTableWord 24 0xD2341D = some (.oraAbsx 0xD234) ∧
    decodeTableWord 24 0xD23419 = some (.oraAbsy 0xD234) ∧
    decodeTableWord 16 0x9C01 = some (.oraIndx 0x9C) ∧
    decodeTableWord 16 0x9C11 = some (.oraIndy 0x9C) ∧
    decodeTableWord 16 0x9C49 = some (.eorImm 0x9C) ∧
    decodeTableWord 16 0x9C45 = some (.eorZp 0x9C) ∧
    decodeTableWord 16 0x9C55 = some (.eorZpx 0x9C) ∧
    decodeTableWord 24 0xD2344D = some (.eorAbs 0xD234) ∧
    decodeTableWord 24 0xD2345D = some (.eorAbsx 0xD234) ∧
    decodeTableWord 24 0xD23459 = some (.eorAbsy 0xD234) ∧
    decodeTableWord 16 0x9C41 = some (.eorIndx 0x9C) ∧
    decodeTableWord 16 0x9C51 = some (.eorIndy 0x9C) := by
  decide +kernel

theorem test_decode_increments :
    decodeTableWord 16 0x9CE6 = some (.incZp 0x9C) ∧
    decodeTableWord 16 0x9CF6 = some (.incZpx 0x9C) ∧
    decodeTableWord 24 0xD234EE = some (.incAbs 0xD234) ∧
    decodeTableWord 24 0xD234FE = some (.incAbsx 0xD234) ∧
    decodeTableWord 16 0x9CC6 = some (.decZp 0x9C) ∧
    decodeTableWord 16 0x9CD6 = some (.decZpx 0x9C) ∧
    decodeTableWord 24 0xD234CE = some (.decAbs 0xD234) ∧
    decodeTableWord 24 0xD234DE = some (.decAbsx 0xD234) ∧
    decodeTableWord 8 0xE8 = some .inx ∧
    decodeTableWord 8 0xC8 = some .iny ∧
    decodeTableWord 8 0xCA = some .dex ∧
    decodeTableWord 8 0x88 = some .dey := by
  decide +kernel

theorem test_decode_transfers_and_stack :
    decodeTableWord 8 0xAA = some .tax ∧
    decodeTableWord 8 0xA8 = some .tay ∧
    decodeTableWord 8 0x8A = some .txa ∧
    decodeTableWord 8 0x98 = some .tya ∧
    decodeTableWord 8 0xBA = some .tsx ∧
    decodeTableWord 8 0x9A = some .txs ∧
    decodeTableWord 8 0x48 = some .pha ∧
    decodeTableWord 8 0x68 = some .pla ∧
    decodeTableWord 8 0x08 = some .php ∧
    decodeTableWord 8 0x28 = some .plp := by
  decide +kernel

theorem test_decode_branches :
    decodeTableWord 16 0x9C10 = some (.bpl 0x9C) ∧
    decodeTableWord 16 0x9C30 = some (.bmi 0x9C) ∧
    decodeTableWord 16 0x9C50 = some (.bvc 0x9C) ∧
    decodeTableWord 16 0x9C70 = some (.bvs 0x9C) ∧
    decodeTableWord 16 0x9C90 = some (.bcc 0x9C) ∧
    decodeTableWord 16 0x9CB0 = some (.bcs 0x9C) ∧
    decodeTableWord 16 0x9CD0 = some (.bne 0x9C) ∧
    decodeTableWord 16 0x9CF0 = some (.beq 0x9C) := by
  decide +kernel

theorem test_decode_jumps :
    decodeTableWord 24 0xD2344C = some (.jmpAbs 0xD234) ∧
    decodeTableWord 24 0xD2346C = some (.jmpInd 0xD234) ∧
    decodeTableWord 24 0xD23420 = some (.jsr 0xD234) ∧
    decodeTableWord 8 0x60 = some .rts := by
  decide +kernel

theorem test_decode_flags_and_nop :
    decodeTableWord 8 0x18 = some .clc ∧
    decodeTableWord 8 0x38 = some .sec ∧
    decodeTableWord 8 0x58 = some .cli ∧
    decodeTableWord 8 0x78 = some .sei ∧
    decodeTableWord 8 0xB8 = some .clv ∧
    decodeTableWord 8 0xD8 = some .cld ∧
    decodeTableWord 8 0xF8 = some .sed ∧
    decodeTableWord 8 0xEA = some .nop := by
  decide +kernel

theorem test_decode_system_and_custom :
    decodeTableWord 8 0x00 = some .brk ∧
    decodeTableWord 8 0x23 = some .err ∧
    decodeTableWord 8 0x40 = some .rti ∧
    decodeTableWord 32 0x9CD23403 = some (.cbl 0xD234 0x9C) ∧
    decodeTableWord 32 0x9CD23413 = some (.cbs 0xD234 0x9C) := by
  decide +kernel

/-- 113 opcode bytes have an entry with the default parameters, 154 with `COMPAT_EXT` (30_encoding.md R95). -/
theorem test_dispatch_counts :
    ((List.range 256).countP (fun b => (dispatch Config.default (BitVec.ofNat 8 b)).isSome)) = 113 ∧
      ((List.range 256).countP (fun b => (dispatch Config.full (BitVec.ofNat 8 b)).isSome)) = 154 := by
  decide +kernel

theorem test_decode_refuses_by_name :
    decode Config.full [0x02, 0x00] = .error (.unknownOpcode 0x02) ∧ decode Config.full [0xAD, 0x34] = .error (.truncated 0xAD) ∧
      decode Config.full [] = .error .noBytes ∧ decode Config.default [0xEA] = .error (.unknownOpcode 0xEA) := by
  decide

/-! ## One instruction at 0x0600: vectors of 95_test_vectors.md part 2 -/

/-- A running machine with the whole catalogue, PC 0x0600 and the given memory. -/
def machine (cells : Memory) : State := { State.boot Config.full cells with run := .running, intervalSteps := some 0 }

/-- A field of the next state. -/
def after {α : Type} (r : Result) (f : State → α) : Option α :=
  match r with
  | .next s => some (f s)
  | .fault _ => none
  | .refused _ => none

/-- The refusal of a refused instruction. -/
def refusal (r : Result) : Option Refusal :=
  match r with
  | .next _ => none
  | .fault _ => none
  | .refused e => some e

theorem test_lda_imm_negative :
    after (exec (.ldaImm 0xFF) { machine [] with p := 0x45 }) (fun s => (s.a, s.p, s.pc)) = some (0xFF, 0xC5, 0x0602) := by decide

theorem test_lda_zpx_wraps :
    after (exec (.ldaZpx 0xFF) { machine [(0x0001, 0x99), (0x0101, 0x55)] with x := 0x02 }) (fun s => (s.a, s.p, s.pc)) = some (0x99, 0x80, 0x0602) := by decide

theorem test_lda_absx_wraps :
    after (exec (.ldaAbsx 0xFFFF) { machine [(0x0001, 0x42)] with x := 0x02 }) (fun s => (s.a, s.p, s.pc)) = some (0x42, 0x00, 0x0603) := by decide

theorem test_lda_absy :
    after (exec (.ldaAbsy 0x2000) { machine [] with y := 0x10, a := 0x01 }) (fun s => (s.a, s.p, s.pc)) = some (0x00, 0x02, 0x0603) := by decide

theorem test_lda_indx :
    after (exec (.ldaIndx 0x20) { machine [(0x0024, 0x74), (0x0025, 0x20), (0x2074, 0x5A)] with x := 0x04 }) (fun s => (s.a, s.p, s.pc)) = some (0x5A, 0x00, 0x0602) := by decide

theorem test_lda_indy :
    after (exec (.ldaIndy 0x86) { machine [(0x0086, 0x28), (0x0087, 0x40), (0x4038, 0x11)] with y := 0x10 }) (fun s => (s.a, s.p, s.pc)) = some (0x11, 0x00, 0x0602) := by decide

theorem test_lda_indx_wrap :
    after (exec (.ldaIndx 0xFF) { machine [(0x0000, 0x30), (0x0100, 0x40), (0x3000, 0x01), (0x4000, 0x02)] with cfg := { Config.full with zpPtrWrap := .wrap } }) (fun s => (s.a, s.p, s.pc)) = some (0x01, 0x00, 0x0602) := by decide

theorem test_lda_indx_linear :
    after (exec (.ldaIndx 0xFF) { machine [(0x0000, 0x30), (0x0100, 0x40), (0x3000, 0x01), (0x4000, 0x02)] with cfg := { Config.full with zpPtrWrap := .linear } }) (fun s => (s.a, s.p, s.pc)) = some (0x02, 0x00, 0x0602) := by decide

theorem test_lda_indx_refused : refusal (exec (.ldaIndx 0xFF) (machine [])) = some .zeroPagePointerAtFF := by decide

theorem test_ldx_zpy_wraps :
    after (exec (.ldxZpy 0xF0) { machine [(0x0010, 0xFF)] with y := 0x20 }) (fun s => (s.x, s.p, s.pc)) = some (0xFF, 0x80, 0x0602) := by decide

theorem test_ldy_absx :
    after (exec (.ldyAbsx 0x3000) { machine [] with x := 0x01, y := 0x09 }) (fun s => (s.y, s.p, s.pc)) = some (0x00, 0x02, 0x0603) := by decide

theorem test_sta_absx :
    after (exec (.staAbsx 0x0200) { machine [] with a := 0xAA, x := 0x10 }) (fun s => (s.readByte 0x0210, s.p, s.pc)) = some (0xAA, 0x00, 0x0603) := by decide

theorem test_sta_indy :
    after (exec (.staIndy 0x40) { machine [(0x0041, 0x30)] with a := 0xAB, y := 0x02, p := 0x80 }) (fun s => (s.readByte 0x3002, s.p, s.pc)) = some (0xAB, 0x80, 0x0602) := by decide

theorem test_stx_zpy_wraps :
    after (exec (.stxZpy 0x10) { machine [] with x := 0x77, y := 0xF8 }) (fun s => (s.readByte 0x0008, s.p, s.pc)) = some (0x77, 0x00, 0x0602) := by decide

theorem test_sty_vector :
    after (exec (.styAbs 0xFFFE) { machine [] with y := 0x12 }) (fun s => (s.readByte 0xFFFE, s.p, s.pc)) = some (0x12, 0x00, 0x0603) := by decide

theorem test_adc_carry_out :
    after (exec (.adcImm 0x01) { machine [] with a := 0xFF }) (fun s => (s.a, s.p, s.pc)) = some (0x00, 0x03, 0x0602) := by decide

theorem test_adc_ignores_carry :
    after (exec (.adcImm 0x01) { machine [] with a := 0x7F, p := 0x41 }) (fun s => (s.a, s.p, s.pc)) = some (0x80, 0xC0, 0x0602) := by decide

theorem test_sbc_carry_clear :
    after (exec (.sbcImm 0x01) { machine [] with a := 0x00 }) (fun s => (s.a, s.p, s.pc)) = some (0xFE, 0xC0, 0x0602) := by decide

theorem test_sbc_sign_change :
    after (exec (.sbcImm 0x01) { machine [] with a := 0x80, p := 0x01 }) (fun s => (s.a, s.p, s.pc)) = some (0x7F, 0x41, 0x0602) := by decide

theorem test_cmp_less :
    after (exec (.cmpImm 0x10) { machine [] with a := 0x05, p := 0x03 }) (fun s => (s.a, s.p, s.pc)) = some (0x05, 0x80, 0x0602) := by decide

theorem test_cmp_byte_sign :
    after (exec (.cmpImm 0x90) { machine [] with p := 0x40 }) (fun s => (s.a, s.p, s.pc)) = some (0x00, 0x40, 0x0602) := by decide

theorem test_cpx_zp :
    after (exec (.cpxZp 0x10) { machine [(0x0010, 0x1F)] with x := 0x20 }) (fun s => (s.x, s.p, s.pc)) = some (0x20, 0x01, 0x0602) := by decide

theorem test_cpy_abs :
    after (exec (.cpyAbs 0x3000) (machine [(0x3000, 0x01)])) (fun s => (s.y, s.p, s.pc)) = some (0x00, 0x80, 0x0603) := by decide

theorem test_asl_acc :
    after (exec .aslAcc { machine [] with a := 0x80 }) (fun s => (s.a, s.p, s.pc)) = some (0x00, 0x03, 0x0601) := by decide

theorem test_asl_zp_carry_only :
    after (exec (.aslZp 0x10) { machine [(0x0010, 0x80)] with p := 0x80 }) (fun s => (s.readByte 0x0010, s.p, s.pc)) = some (0x00, 0x81, 0x0602) := by decide

theorem test_lsr_acc :
    after (exec .lsrAcc { machine [] with a := 0x03 }) (fun s => (s.a, s.p, s.pc)) = some (0x01, 0x01, 0x0601) := by decide

theorem test_lsr_abs :
    after (exec (.lsrAbs 0x3000) (machine [(0x3000, 0x01)])) (fun s => (s.readByte 0x3000, s.p, s.pc)) = some (0x00, 0x01, 0x0603) := by decide

theorem test_rol_acc :
    after (exec .rolAcc { machine [] with a := 0x40, p := 0x01 }) (fun s => (s.a, s.p, s.pc)) = some (0x80, 0x80, 0x0601) := by decide

theorem test_rol_zpx :
    after (exec (.rolZpx 0x10) { machine [(0x0011, 0x80)] with x := 0x01 }) (fun s => (s.readByte 0x0011, s.p, s.pc)) = some (0x01, 0x01, 0x0602) := by decide

theorem test_ror_acc :
    after (exec .rorAcc { machine [] with a := 0x01 }) (fun s => (s.a, s.p, s.pc)) = some (0x80, 0x81, 0x0601) := by decide

theorem test_ror_absx :
    after (exec (.rorAbsx 0x3000) { machine [(0x3002, 0x01)] with x := 0x02 }) (fun s => (s.readByte 0x3002, s.p, s.pc)) = some (0x80, 0x01, 0x0603) := by decide

theorem test_bit_zp :
    after (exec (.bitZp 0x10) { machine [(0x0010, 0x41)] with a := 0x01, p := 0x82 }) (fun s => (s.a, s.p, s.pc)) = some (0x01, 0x40, 0x0602) := by decide

theorem test_bit_abs :
    after (exec (.bitAbs 0x3000) { machine [(0x3000, 0x3F)] with a := 0xFF, p := 0xC0 }) (fun s => (s.a, s.p, s.pc)) = some (0xFF, 0x00, 0x0603) := by decide

theorem test_and_imm :
    after (exec (.andImm 0x0F) { machine [] with a := 0xF0 }) (fun s => (s.a, s.p, s.pc)) = some (0x00, 0x02, 0x0602) := by decide

theorem test_ora_imm :
    after (exec (.oraImm 0x80) { machine [] with a := 0x01 }) (fun s => (s.a, s.p, s.pc)) = some (0x81, 0x80, 0x0602) := by decide

theorem test_eor_imm :
    after (exec (.eorImm 0xFF) { machine [] with a := 0xF5 }) (fun s => (s.a, s.p, s.pc)) = some (0x0A, 0x00, 0x0602) := by decide

theorem test_inc_zp_no_flags :
    after (exec (.incZp 0x10) { machine [(0x0010, 0xFF)] with p := 0x80 }) (fun s => (s.readByte 0x0010, s.p, s.pc)) = some (0x00, 0x80, 0x0602) := by decide

theorem test_dec_zpx_wraps :
    after (exec (.decZpx 0x10) (machine [])) (fun s => (s.readByte 0x0010, s.p, s.pc)) = some (0xFF, 0x00, 0x0602) := by decide

theorem test_inx :
    after (exec .inx { machine [] with x := 0xFF }) (fun s => (s.x, s.p, s.pc)) = some (0x00, 0x02, 0x0601) := by decide

theorem test_iny :
    after (exec .iny { machine [] with y := 0x7F }) (fun s => (s.y, s.p, s.pc)) = some (0x80, 0x80, 0x0601) := by decide

theorem test_dex :
    after (exec .dex (machine [])) (fun s => (s.x, s.p, s.pc)) = some (0xFF, 0x80, 0x0601) := by decide

theorem test_dey :
    after (exec .dey { machine [] with y := 0x01 }) (fun s => (s.y, s.p, s.pc)) = some (0x00, 0x02, 0x0601) := by decide

theorem test_tax :
    after (exec .tax { machine [] with a := 0x80 }) (fun s => (s.x, s.p, s.pc)) = some (0x80, 0x80, 0x0601) := by decide

theorem test_tay :
    after (exec .tay { machine [] with y := 0x05 }) (fun s => (s.y, s.p, s.pc)) = some (0x00, 0x02, 0x0601) := by decide

theorem test_txa :
    after (exec .txa { machine [] with x := 0x01, p := 0x82 }) (fun s => (s.a, s.p, s.pc)) = some (0x01, 0x00, 0x0601) := by decide

theorem test_tya :
    after (exec .tya { machine [] with y := 0xFF }) (fun s => (s.a, s.p, s.pc)) = some (0xFF, 0x80, 0x0601) := by decide

theorem test_tsx :
    after (exec .tsx (machine [])) (fun s => (s.x, s.p, s.pc)) = some (0xFF, 0x80, 0x0601) := by decide

theorem test_txs_no_flags :
    after (exec .txs { machine [] with x := 0x00, p := 0x80 }) (fun s => (s.sp, s.p, s.pc)) = some (0x00, 0x80, 0x0601) := by decide

theorem test_pha_wraps :
    after (exec .pha { machine [] with a := 0x42, sp := 0x00 }) (fun s => (s.readByte 0x0100, s.sp, s.p)) = some (0x42, 0xFF, 0x00) := by decide

theorem test_pla_wraps :
    after (exec .pla { machine [(0x0100, 0x80)] with a := 0x05 }) (fun s => (s.a, s.sp, s.p)) = some (0x80, 0x00, 0x80) := by decide

theorem test_php :
    after (exec .php { machine [] with p := 0xC3 }) (fun s => (s.readByte 0x01FF, s.sp, s.p)) = some (0xC3, 0xFE, 0xC3) := by decide

theorem test_plp :
    after (exec .plp { machine [(0x01FF, 0x34)] with sp := 0xFE }) (fun s => (s.p, s.sp, s.pc)) = some (0x34, 0xFF, 0x0601) := by decide

theorem test_bpl :
    after (exec (.bpl 0x10) { machine [] with pc := 0xFFFD, p := 0x00 }) (fun s => s.pc) = some 0x000F ∧
      after (exec (.bpl 0x10) { machine [] with pc := 0xFFFD, p := 0x80 }) (fun s => s.pc) = some 0xFFFF := by decide

theorem test_bmi :
    after (exec (.bmi 0xFE) { machine [] with pc := 0x0600, p := 0x80 }) (fun s => s.pc) = some 0x0600 ∧
      after (exec (.bmi 0xFE) { machine [] with pc := 0x0600, p := 0x00 }) (fun s => s.pc) = some 0x0602 := by decide

theorem test_bvc :
    after (exec (.bvc 0x10) { machine [] with pc := 0x0600, p := 0x00 }) (fun s => s.pc) = some 0x0612 ∧
      after (exec (.bvc 0x10) { machine [] with pc := 0x0600, p := 0x40 }) (fun s => s.pc) = some 0x0602 := by decide

theorem test_bvs :
    after (exec (.bvs 0x10) { machine [] with pc := 0x0600, p := 0x40 }) (fun s => s.pc) = some 0x0612 ∧
      after (exec (.bvs 0x10) { machine [] with pc := 0x0600, p := 0x00 }) (fun s => s.pc) = some 0x0602 := by decide

theorem test_bcc :
    after (exec (.bcc 0x80) { machine [] with pc := 0x0600, p := 0x00 }) (fun s => s.pc) = some 0x0582 ∧
      after (exec (.bcc 0x80) { machine [] with pc := 0x0600, p := 0x01 }) (fun s => s.pc) = some 0x0602 := by decide

theorem test_bcs :
    after (exec (.bcs 0x7F) { machine [] with pc := 0x0600, p := 0x01 }) (fun s => s.pc) = some 0x0681 ∧
      after (exec (.bcs 0x7F) { machine [] with pc := 0x0600, p := 0x00 }) (fun s => s.pc) = some 0x0602 := by decide

theorem test_bne :
    after (exec (.bne 0xFB) { machine [] with pc := 0x0607, p := 0x00 }) (fun s => s.pc) = some 0x0604 ∧
      after (exec (.bne 0xFB) { machine [] with pc := 0x0607, p := 0x02 }) (fun s => s.pc) = some 0x0609 := by decide

theorem test_beq :
    after (exec (.beq 0x05) { machine [] with pc := 0x0600, p := 0x02 }) (fun s => s.pc) = some 0x0607 ∧
      after (exec (.beq 0x05) { machine [] with pc := 0x0600, p := 0x00 }) (fun s => s.pc) = some 0x0602 := by decide

theorem test_jmp_abs :
    after (exec (.jmpAbs 0x1234) (machine [])) (fun s => s.pc) = some 0x1234 := by decide

theorem test_jmp_ind_no_defect :
    after (exec (.jmpInd 0x30FF) (machine [(0x3000, 0x99), (0x30FF, 0x34), (0x3100, 0x12)])) (fun s => s.pc) = some 0x1234 := by decide

theorem test_jsr :
    after (exec (.jsr 0x0700) (machine [])) (fun s => (s.readByte 0x01FF, s.readByte 0x01FE, s.sp, s.pc)) = some (0x06, 0x02, 0xFD, 0x0700) := by decide

theorem test_rts :
    after (exec .rts { machine [(0x01FE, 0x02), (0x01FF, 0x06)] with sp := 0xFD, pc := 0x0700 }) (fun s => (s.sp, s.pc)) = some (0xFF, 0x0603) := by decide

theorem test_clc :
    after (exec .clc { machine [] with p := 0xFF }) (fun s => (s.p, s.pc)) = some (0xFE, 0x0601) := by decide

theorem test_sec :
    after (exec .sec { machine [] with p := 0x00 }) (fun s => (s.p, s.pc)) = some (0x01, 0x0601) := by decide

theorem test_cli :
    after (exec .cli { machine [] with p := 0xFF }) (fun s => (s.p, s.pc)) = some (0xFB, 0x0601) := by decide

theorem test_sei :
    after (exec .sei { machine [] with p := 0x00 }) (fun s => (s.p, s.pc)) = some (0x04, 0x0601) := by decide

theorem test_clv :
    after (exec .clv { machine [] with p := 0xFF }) (fun s => (s.p, s.pc)) = some (0xBF, 0x0601) := by decide

theorem test_cld :
    after (exec .cld { machine [] with p := 0xFF }) (fun s => (s.p, s.pc)) = some (0xF7, 0x0601) := by decide

theorem test_sed :
    after (exec .sed { machine [] with p := 0x00 }) (fun s => (s.p, s.pc)) = some (0x08, 0x0601) := by decide

theorem test_nop :
    after (exec .nop { machine [] with p := 0x55 }) (fun s => (s.p, s.pc)) = some (0x55, 0x0601) := by decide

theorem test_brk_halts :
    after (exec .brk { machine [] with a := 0x01, pc := 0x060B }) (fun s => (s.run, s.a, s.sp, s.p, s.mem.length)) = some (.halted (.brk 0x060B), 0x01, 0xFF, 0x00, 0) := by decide

theorem test_err_halts :
    after (exec .err { machine [] with pc := 0x0700 }) (fun s => (s.run, s.a, s.sp, s.p, s.mem.length)) = some (.halted (.softwareError 0x0700), 0x00, 0xFF, 0x00, 0) := by decide

theorem test_rti :
    after (exec .rti { machine [(0x01FD, 0xC3), (0x01FE, 0x34), (0x01FF, 0x12)] with sp := 0xFC, inProgress := true }) (fun s => (s.p, s.pc, s.sp, s.inProgress)) = some (0xC3, 0x1234, 0xFF, false) := by decide

theorem test_cbl :
    after (exec (.cbl 0x1000 0x04) (machine [(0x1000, 0x11), (0x1001, 0x22), (0x1002, 0x33), (0x1003, 0x44)])) (fun s => (s.readBlock 0x0200 4, s.pc)) = some ([0x11, 0x22, 0x33, 0x44], 0x0604) := by decide

theorem test_cbs_overlap :
    after (exec (.cbs 0x0201 0x03) (machine [(0x0200, 0x11), (0x0201, 0x22), (0x0202, 0x33), (0x0203, 0x44)])) (fun s => (s.readBlock 0x0200 4, s.pc)) = some ([0x11, 0x11, 0x22, 0x33], 0x0604) := by decide

theorem test_block_refusals :
    refusal (exec (.cbl 0x1000 0x41) (machine [])) = some .blockLongerThanCache ∧
      refusal (exec (.cbs 0xFFF0 0x11) (machine [])) = some .blockPastEnd ∧
      after (exec (.cbs 0xFFF0 0x10) (machine [])) (fun s => s.pc) = some 0x0604 := by decide

/-! ## Fetching and the controller: 95_test_vectors.md parts 2 and 3 -/

/-- An operand that wraps with PC: `AD 00` at FFFE, `30` at 0000. -/
theorem test_fetch_wraps :
    after (step { machine [(0x0000, 0x30), (0x3000, 0x77), (0xFFFE, 0xAD)] with pc := 0xFFFE })
      (fun s => (s.a, s.pc, s.intervalSteps)) = some (0x77, 0x0001, some 1) := by decide

theorem test_unknown_opcode :
    after (step (machine [(0x0600, 0x02)])) (fun s => (s.run, s.a, s.sp)) =
      some (.halted (.unknownOpcode 0x0600 0x02), 0x00, 0xFF) := by decide

/-- AND IMM with `COMPAT_EXT` false is an unknown opcode. -/
theorem test_compat_off :
    after (step { machine [(0x0600, 0x29), (0x0601, 0x0F)] with cfg := Config.default }) (fun s => s.run) =
      some (.halted (.unknownOpcode 0x0600 0x29)) := by decide

/-- S7 with the stack pointer that wraps: entry pushes PC high, PC low, P and changes no flag. -/
theorem test_interrupt_entry :
    after (step { machine [(0xFFFE, 0x34), (0xFFFF, 0x12)] with pc := 0x0609, sp := 0x01, p := 0x83, intervalSteps := some 100 })
      (fun s => ((s.readByte 0x0101, s.readByte 0x0100, s.readByte 0x01FF), (s.sp, s.pc, s.p), s.inProgress, s.run)) =
      some ((0x06, 0x09, 0x83), (0xFE, 0x1234, 0x83), true, .servicing) := by decide

theorem test_interrupt_masked :
    after (step { machine [] with p := 0x04, intervalSteps := some 100 }) (fun s => (s.run, s.sp, s.intervalSteps)) =
      some (.running, 0xFF, none) := by decide

/-- The budget is spent and the mark still set: RunawayInterrupt. -/
theorem test_runaway :
    after (step { machine [] with run := .servicing, inProgress := true, intervalSteps := none, serviceSteps := 100 })
      (fun s => (s.run, s.inProgress)) = some (.halted .runawayInterrupt, true) := by decide

theorem test_service_ends :
    after (step { machine [] with run := .servicing, inProgress := false, intervalSteps := none, serviceSteps := 2 })
      (fun s => (s.run, s.serviceSteps)) = some (.running, 0) := by decide

/-- The machine above with a suspend point at 0x0600. -/
def flagged (cells : Memory) : State := { machine cells with cfg := { Config.full with suspendTable := [0x0600] } }

/-- A suspend point beats an unknown opcode at the same address; nothing else changes. -/
theorem test_suspend_point :
    after (step (flagged [(0x0600, 0x02)]))
      (fun s => (s.run, s.pc, s.intervalSteps)) = some (.suspended, 0x0600, none) := by decide

/-- `resume` counts an interval and sets the guard. -/
theorem test_resume :
    after (step { flagged [] with run := .suspended, intervalSteps := none, inbox := [.resume] })
      (fun s => (s.run, s.justResumed, s.intervalCount, s.intervalSteps)) = some (.running, true, 1, some 0) := by decide

/-- The step after a resume executes the flagged instruction and clears the guard. -/
theorem test_step_after_resume :
    after (step { flagged [(0x0600, 0xA9), (0x0601, 0x01)] with justResumed := true })
      (fun s => (s.a, s.pc, s.justResumed)) = some (0x01, 0x0602, false) := by decide

theorem test_suspend_in_service_refused :
    refusal (step { flagged [] with run := .servicing, inProgress := true, intervalSteps := none }) = some .suspendWhileServicing := by decide

theorem test_interval_limit :
    after (step { machine [] with intervalSteps := none, intervalCount := 1000 }) (fun s => (s.run, s.intervalCount)) =
      some (.halted .intervalLimit, 1000) := by decide

theorem test_go_only_when_idle :
    after (step { State.reset with inbox := [.go] }) (fun s => s.run) = some .running ∧
      after (step { machine [] with run := .suspended, intervalSteps := none, inbox := [.go] }) (fun s => s.run) =
        some .suspended := by decide

theorem test_host_suspend_waits_for_the_interval :
    after (step { machine [(0x0600, 0xEA)] with inbox := [.suspend] }) (fun s => (s.run, s.pc)) = some (.running, 0x0601) ∧
      after (step { machine [] with intervalSteps := none, inbox := [.suspend] }) (fun s => s.run) = some .suspended := by decide

theorem test_reset_input :
    after (step { machine [(0x0010, 0x07)] with sp := 0x12, p := 0xFF, inbox := [.reset] })
      (fun s => (s.run, s.sp, s.p, s.pc, s.readByte 0x0010)) = some (.idle, 0xFF, 0x00, 0x0600, 0x07) := by decide

theorem test_annotations_emitted :
    after (step { machine [(0x0600, 0xEA)] with cfg := { Config.full with debugTable := [(0x0600, .memoryDump 0x0200)] } })
      (fun s => (s.emitted, s.pc)) = some ([(0x0600, .memoryDump 0x0200)], 0x0601) := by decide

/-- The drain writes only the keyboard cells and empties the queue (60_exceptions.md R268). -/
theorem test_keyboard_drain :
    ({ machine [(0x0311, 0x07)] with keyQueue := [0x41] }.keyboardDrain.keyQueue) = [] ∧
      (kbdCells Config.default).length = 17 ∧ (0x0311 : Word) ∉ kbdCells Config.default := by decide

/-- A key code joins the queue at any boundary. -/
theorem test_key_input :
    after (step { machine [] with inbox := [.key 0x41, .go] }) (fun s => (s.keyQueue, s.inbox)) =
      some ([0x41], [.go]) := by decide

/-! ## Placing an instruction where the next step fetches -/

theorem test_with_fetch_word_core :
    after (step (State.reset.withFetchWord 16 0x7FA9)) (fun s => (s.a, s.pc)) = some (0x7F, 0x0602) := by decide

theorem test_with_fetch_word_compat :
    after (step (State.reset.withFetchWord 8 0xEA)) (fun s => (s.run, s.pc)) = some (.running, 0x0601) := by decide

theorem test_with_fetch_word_custom :
    after (step (State.reset.withFetchWord 8 0x03)) (fun s => s.pc) = some 0x0604 := by decide

/-! ## Witnesses: a concrete state that meets the hypotheses of each statement of Certificates/Slice0/Obligations.lean -/

open Sys2Proof.Claim

theorem noInput_of_empty {s : State} (h : s.inbox = []) : NoInputTaken s := by
  intro j rest e
  rw [h] at e
  cases e

theorem witness_DecodeOfEncodeIsTheInstruction :
    Config.full.wf = true ∧ (Instr.eorIndy 0xFF).wf Config.full = true ∧ (Instr.cbl 0xFFFF 0xFF).wf Config.full = true := by
  decide

theorem witness_DecodedBytesAreTheEncoding :
    Config.default.wf = true ∧ decode Config.default [0x6D, 0x34, 0x12, 0xEA] = .ok (.adcAbs 0x1234, [0xEA]) := by
  exact ⟨by decide, rfl⟩

/-- Both clauses: inside an interval, with one step of the quota left, and inside the service loop, with one step of the
budget left. -/
theorem witness_StepRunsTheDecodedInstruction :
    let s := { machine [(0x0600, 0xA9), (0x0601, 0x7F)] with intervalSteps := some 99 }
    let u := { machine [(0x0600, 0xA9), (0x0601, 0x7F)] with
      run := .servicing, inProgress := true, intervalSteps := none, serviceSteps := 99 }
    decode s.cfg s.fetchBytes = .ok (.ldaImm 0x7F, [0x00, 0x00]) ∧ InInterval s 99 ∧
      decode u.cfg u.fetchBytes = .ok (.ldaImm 0x7F, [0x00, 0x00]) ∧ InService u :=
  ⟨rfl, ⟨noInput_of_empty rfl, rfl, rfl, by decide, rfl⟩, rfl, ⟨noInput_of_empty rfl, rfl, rfl, by decide, rfl⟩⟩

theorem witness_UnknownOpcodeHalts :
    let s := machine [(0x0600, 0x02)]
    (dispatch s.cfg (s.readByte s.pc)).isNone = true ∧ InInterval s 0 ∧
      InService { s with run := .servicing, inProgress := true, intervalSteps := none } :=
  ⟨rfl, ⟨noInput_of_empty rfl, rfl, rfl, by decide, rfl⟩, ⟨noInput_of_empty rfl, rfl, rfl, by decide, rfl⟩⟩

theorem witness_ResetMeetsTheInvariant :
    Config.full.wf = true ∧ Memory.wf [(0x0000, 0x01), (0xFFFF, 0x02)] = true := by decide

theorem machine_inv : (machine [(0x0600, 0xE8)]).Inv where
  memWf := by decide
  cfgWf := by decide
  quota := by
    intro k h
    cases h
    decide
  budget := by decide
  limit := by decide
  marked := fun h => (nomatch h)
  underWay := fun _ => rfl

theorem witness_StepKeepsTheInvariant :
    (machine [(0x0600, 0xE8)]).Inv ∧ after (step (machine [(0x0600, 0xE8)])) (fun t => t.x) = some 0x01 :=
  ⟨machine_inv, by decide⟩

theorem witness_StoredByteIsFetched : Memory.wf (machine [(0x0000, 0x07)]).mem = true ∧ (3 : Nat) < 4 := by decide

/-- Each clause: after a resume, and not. -/
theorem witness_AnnotationsFireUnlessJustResumed :
    ({ machine [] with justResumed := true } : State).justResumed = true ∧ (machine []).justResumed = false := by decide

theorem witness_StepNeverWritesParameters :
    after (step (machine [(0x0600, 0xE8)])) (fun t => decide (t.cfg = Config.full)) = some true := by decide

theorem witness_ResetInputResets :
    ({ machine [] with inbox := [.reset, .go] } : State).inbox = .reset :: [.go] := rfl

/-- The clauses of the two indirect forms: pointer at 0xFE, at 0xFF with `wrap` and with `linear`, and at 0xFF with `refuse`. -/
theorem witness_EffectiveAddresses :
    let s := { machine [(0x0000, 0x30), (0x00FF, 0x10), (0x0100, 0x40)] with x := 0xFF }
    let w := { s with cfg := { Config.full with zpPtrWrap := .wrap } }
    let l := { s with cfg := { Config.full with zpPtrWrap := .linear } }
    formAddress (.indx 0xFF) s = .ok 0x1000 ∧ formAddress (.indy 0xFE) s = .ok 0x1000 ∧
      formAddress (.indx 0x00) w = .ok 0x3010 ∧ formAddress (.indy 0xFF) w = .ok 0x3010 ∧
      formAddress (.indx 0x00) l = .ok 0x4010 ∧ formAddress (.indy 0xFF) l = .ok 0x4010 ∧
      formAddress (.indx 0x00) s = .error .zeroPagePointerAtFF ∧ formAddress (.indy 0xFF) s = .error .zeroPagePointerAtFF :=
  ⟨rfl, rfl, rfl, rfl, rfl, rfl, rfl, rfl⟩

theorem witness_OperandValues :
    formAddress (.absx 0xFFFF) { machine [] with x := 0x01 } = .ok 0x0000 ∧
      formAddress (.indy 0xFF) (machine []) = .error .zeroPagePointerAtFF := ⟨rfl, rfl⟩

theorem witness_LoadsWriteTheRegister :
    formValue (.zp 0x10) (machine [(0x0010, 0x80)]) = .ok 0x80 ∧ ldaForms (.zp 0x10) = some (0xA5, .ldaZp 0x10) ∧
      ldxForms (.zp 0x10) = some (0xA6, .ldxZp 0x10) ∧ ldyForms (.zp 0x10) = some (0xA4, .ldyZp 0x10) := ⟨rfl, rfl, rfl, rfl⟩

theorem witness_StoresWriteOneByte :
    Memory.wf (machine []).mem = true ∧ formAddress (.abs 0xFFFF) (machine []) = .ok 0xFFFF ∧
      staForms (.abs 0xFFFF) = some (0x8D, .staAbs 0xFFFF) ∧ stxForms (.abs 0xFFFF) = some (0x8E, .stxAbs 0xFFFF) ∧
      styForms (.abs 0xFFFF) = some (0x8C, .styAbs 0xFFFF) := ⟨rfl, rfl, rfl, rfl, rfl⟩

theorem witness_PointerRefusalRefusesTheInstruction :
    formAddress (.indy 0xFF) (machine []) = .error .zeroPagePointerAtFF ∧
      ldaForms (.indy 0xFF) = some (0xB1, .ldaIndy 0xFF) ∧ staForms (.indy 0xFF) = some (0x91, .staIndy 0xFF) ∧
      cmpForms (.indy 0xFF) = some (0xD1, .cmpIndy 0xFF) ∧ adcForms (.indy 0xFF) = some (0x71, .adcIndy 0xFF) ∧
      sbcForms (.indy 0xFF) = some (0xF1, .sbcIndy 0xFF) ∧ andForms (.indy 0xFF) = some (0x31, .andIndy 0xFF) ∧
      oraForms (.indy 0xFF) = some (0x11, .oraIndy 0xFF) ∧ eorForms (.indy 0xFF) = some (0x51, .eorIndy 0xFF) :=
  ⟨rfl, rfl, rfl, rfl, rfl, rfl, rfl, rfl, rfl⟩

theorem witness_ComparesWriteThreeFlags :
    formValue (.imm 0x90) (machine []) = .ok 0x90 ∧ cmpForms (.imm 0x90) = some (0xC9, .cmpImm 0x90) ∧
      cpxForms (.imm 0x90) = some (0xE0, .cpxImm 0x90) ∧ cpyForms (.imm 0x90) = some (0xC0, .cpyImm 0x90) := ⟨rfl, rfl, rfl, rfl⟩

theorem witness_AdcAddsWithoutCarryIn :
    formValue (.indx 0x20) (machine [(0x0021, 0x30), (0x3000, 0xFF)]) = .ok 0xFF ∧
      adcForms (.indx 0x20) = some (0x61, .adcIndx 0x20) := ⟨rfl, rfl⟩

theorem witness_SbcSubtractsWithBorrow :
    formValue (.absy 0x3000) (machine [(0x3000, 0xFF)]) = .ok 0xFF ∧
      sbcForms (.absy 0x3000) = some (0xF9, .sbcAbsy 0x3000) := ⟨rfl, rfl⟩

theorem witness_DecimalHasNoEffect :
    adcForms (.imm 0x09) = some (0x69, .adcImm 0x09) ∧ sbcForms (.imm 0x09) = some (0xE9, .sbcImm 0x09) := ⟨rfl, rfl⟩

theorem witness_MemoryShiftsWriteCarryOnly :
    let s := { machine [(0x007F, 0x81)] with x := 0x80 }
    Memory.wf s.mem = true ∧ formAddress (.zpx 0xFF) s = .ok 0x007F ∧ s.readByte 0x007F = 0x81 ∧
      aslForms (.zpx 0xFF) = some (0x16, .aslZpx 0xFF) ∧ lsrForms (.zpx 0xFF) = some (0x56, .lsrZpx 0xFF) ∧
      rolForms (.zpx 0xFF) = some (0x36, .rolZpx 0xFF) ∧ rorForms (.zpx 0xFF) = some (0x76, .rorZpx 0xFF) :=
  ⟨rfl, rfl, rfl, rfl, rfl, rfl, rfl⟩

theorem witness_AdcAndShiftsNeverReadCarry :
    adcForms (.absx 0x1234) = some (0x7D, .adcAbsx 0x1234) ∧ aslForms (.absx 0x1234) = some (0x1E, .aslAbsx 0x1234) ∧
      lsrForms (.absx 0x1234) = some (0x5E, .lsrAbsx 0x1234) ∧ rolForms (.absx 0x1234) = some (0x3E, .rolAbsx 0x1234) ∧
      rorForms (.absx 0x1234) = some (0x7E, .rorAbsx 0x1234) := ⟨rfl, rfl, rfl, rfl, rfl⟩

theorem witness_BitTestsMemory :
    formValue (.abs 0x3000) (machine [(0x3000, 0xC0)]) = .ok 0xC0 ∧ bitForms (.abs 0x3000) = some (0x2C, .bitAbs 0x3000) :=
  ⟨rfl, rfl⟩

theorem witness_LogicWritesA :
    formValue (.indy 0x20) (machine [(0x0021, 0x30), (0x3000, 0x0F)]) = .ok 0x0F ∧
      andForms (.indy 0x20) = some (0x31, .andIndy 0x20) ∧ oraForms (.indy 0x20) = some (0x11, .oraIndy 0x20) ∧
      eorForms (.indy 0x20) = some (0x51, .eorIndy 0x20) := ⟨rfl, rfl, rfl, rfl⟩

theorem witness_MemoryIncDecWriteNoFlag :
    Memory.wf (machine [(0x0010, 0xFF)]).mem = true ∧ formAddress (.zp 0x10) (machine [(0x0010, 0xFF)]) = .ok 0x0010 ∧
      incForms (.zp 0x10) = some (0xE6, .incZp 0x10) ∧ decForms (.zp 0x10) = some (0xC6, .decZp 0x10) := ⟨rfl, rfl, rfl, rfl⟩

/-- PHA, PHP and JSR: a canonical memory, with SP at 0x00 so that the push wraps. -/
theorem witness_PushesStoreAtTheStackPointer :
    Memory.wf ({ machine [(0x0100, 0x07)] with sp := 0x00 } : State).mem = true := by decide

theorem witness_JsrPushesTheReturnAddress :
    Memory.wf ({ machine [(0x0600, 0x20), (0x0602, 0x07)] with sp := 0x00 } : State).mem = true := by decide

theorem witness_PullsLoadFromTheStack :
    (0x42 : Byte) = ({ machine [(0x0100, 0x42)] with sp := 0xFF } : State).readByte (stackAddr (0xFF + 1)) := by decide

theorem witness_StackReturnsBytesInReverse :
    Memory.wf (machine [(0x0200, 0x07)]).mem = true ∧ (List.replicate 256 (0x5A : Byte)).length ≤ 256 :=
  ⟨rfl, List.length_replicate.le⟩

theorem witness_RtsReturnsBehindJsr :
    let s := machine [(0x0600, 0x20), (0x0602, 0x07)]
    let t := { s with mem := [(0x01FE, 0x02), (0x01FF, 0x06), (0x0600, 0x20), (0x0602, 0x07)], sp := 0xFD, pc := 0x0700 }
    let u := { t with a := 0x55, p := 0xFF, pc := 0x1234 }
    Memory.wf s.mem = true ∧ exec (.jsr 0x0700) s = .next t ∧ u.sp = t.sp ∧
      u.readByte (stackAddr s.sp) = t.readByte (stackAddr s.sp) ∧
      u.readByte (stackAddr (s.sp - 1)) = t.readByte (stackAddr (s.sp - 1)) := ⟨rfl, rfl, rfl, rfl, rfl⟩

/-- At both bounds: as long as the cache region, and up to the last address. -/
theorem witness_BlockCopiesAreOverlapSafe :
    let s := machine [(0x0200, 0x11)]
    Memory.wf s.mem = true ∧ (0x40 : Byte).toNat ≤ s.cfg.cacheSize ∧ (0xFFC0 : Word).toNat + (0x40 : Byte).toNat ≤ 65536 ∧
      s.cfg.cacheStart.toNat + (0x40 : Byte).toNat ≤ 65536 := by decide

/-- Each clause, one past its bound. -/
theorem witness_BlockCopiesOutOfBoundsRefuse :
    let s := machine []
    let c := { machine [] with cfg := { Config.full with cacheStart := 0xFFE0 } }
    s.cfg.cacheSize < (0x41 : Byte).toNat ∧ (0x40 : Byte).toNat ≤ s.cfg.cacheSize ∧
      65536 < (0xFFC1 : Word).toNat + (0x40 : Byte).toNat ∧ 65536 < c.cfg.cacheStart.toNat + (0x21 : Byte).toNat := by decide

theorem witness_FlagsOutsideTheRowAreUnchanged :
    after (exec (.adcImm 0x7F) { machine [] with a := 0x01, p := 0x40 }) (fun t => t.flag .v) = some true ∧
      Flag.v ∉ flagRow (.adcImm 0x7F) := by decide

theorem witness_RegistersHaveTheirWritersOnly :
    after (exec (.staZp 0x10) { machine [] with a := 0x01 }) (fun t => (t.a, t.x, t.y, t.sp)) = some (0x01, 0x00, 0x00, 0xFF) ∧
      writesA (.staZp 0x10) = false ∧ storesMemory (.ldaImm 0x01) = false ∧ writesSP .nop = false := by decide

theorem witness_InstructionsLeaveTheController :
    after (exec .nop (machine [])) (fun t => t.run) = some .running ∧ Instr.nop ≠ .rti ∧ Instr.nop ≠ .brk ∧ Instr.nop ≠ .err := by
  decide

/-- Each refuse point: the pointers of both indirect forms at 0xFF, a block one byte too long, a block one byte past 0xFFFF. -/
theorem witness_InstructionsStopOnlyAtRefusePoints :
    (indirectPointer { machine [] with x := 0x80 } (.staIndx 0x7F) = some 0xFF ∧
        indirectPointer (machine []) (.eorIndy 0xFF) = some 0xFF ∧ (machine []).cfg.zpPtrWrap = .refuse) ∧
      refusal (exec (.staIndx 0x7F) { machine [] with x := 0x80 }) = some .zeroPagePointerAtFF ∧
      refusal (exec (.staIndx 0x7E) { machine [] with x := 0x80 }) = none ∧
      refusal (exec (.cbl 0x1000 0x41) (machine [])) = some .blockLongerThanCache ∧
      refusal (exec (.cbl 0x1000 0x40) (machine [])) = none ∧
      refusal (exec (.cbs 0xFFC1 0x40) (machine [])) = some .blockPastEnd ∧
      refusal (exec (.cbs 0xFFC0 0x40) (machine [])) = none := by decide

theorem witness_InterruptEntryAtIntervalEnd :
    let s := { machine [(0xFFFE, 0x34), (0xFFFF, 0x12)] with intervalSteps := some 100 }
    Memory.wf s.mem = true ∧ NoInputTaken s ∧ s.run = .running ∧ s.intervalSteps = some 100 ∧ s.cfg.stepQuota ≤ 100 ∧
      s.flag .i = false := ⟨rfl, noInput_of_empty rfl, rfl, rfl, by decide, rfl⟩

theorem witness_MaskedInterruptIsDropped :
    let s := { machine [] with intervalSteps := some 100, p := 0x04 }
    NoInputTaken s ∧ s.run = .running ∧ s.intervalSteps = some 100 ∧ s.cfg.stepQuota ≤ 100 ∧ s.flag .i = true :=
  ⟨noInput_of_empty rfl, rfl, rfl, by decide, rfl⟩

/-- The clauses: an empty queue, and an address just outside the data region. -/
theorem witness_KeyboardDrainIsConfined :
    (machine []).keyQueue = [] ∧ (machine []).cfg.keyboardFits = true ∧ (0x0311 : Word) ≠ (machine []).cfg.kbdCountAddr ∧
      (machine []).cfg.kbdDataStart.toNat + (machine []).cfg.kbdCapacity ≤ (0x0311 : Word).toNat := by decide

/-- The state after entry itself, with other values in A, X and Y. -/
theorem witness_RtiUndoesInterruptEntry :
    let s := { machine [] with p := 0x83 }
    let u := { s.interruptEntry with a := 0x55, x := 0x66, y := 0x77 }
    Memory.wf s.mem = true ∧ u.sp = s.interruptEntry.sp ∧
      u.readByte (stackAddr s.sp) = s.interruptEntry.readByte (stackAddr s.sp) ∧
      u.readByte (stackAddr (s.sp - 1)) = s.interruptEntry.readByte (stackAddr (s.sp - 1)) ∧
      u.readByte (stackAddr (s.sp - 2)) = s.interruptEntry.readByte (stackAddr (s.sp - 2)) := ⟨rfl, rfl, rfl, rfl, rfl⟩

/-- A machine in the service loop. -/
def serving (n : Nat) : State :=
  { flagged [] with run := .servicing, inProgress := true, intervalSteps := none, serviceSteps := n }

theorem witness_ServiceLoopEnds :
    let s := { serving 1 with inProgress := false }
    NoInputTaken s ∧ s.run = .servicing ∧ s.inProgress = false := ⟨noInput_of_empty rfl, rfl, rfl⟩

theorem witness_RunawayInterruptHalts :
    NoInputTaken (serving 100) ∧ (serving 100).run = .servicing ∧ (serving 100).inProgress = true ∧
      (serving 100).cfg.intStepBudget ≤ (serving 100).serviceSteps := ⟨noInput_of_empty rfl, rfl, rfl, by decide⟩

theorem witness_SuspendPointInServiceIsRefused :
    NoInputTaken (serving 99) ∧ (serving 99).run = .servicing ∧ (serving 99).inProgress = true ∧
      (serving 99).serviceSteps < (serving 99).cfg.intStepBudget ∧ (serving 99).justResumed = false ∧
      Config.suspendAt (serving 99).cfg (serving 99).pc = true := ⟨noInput_of_empty rfl, rfl, rfl, by decide, rfl, rfl⟩

theorem witness_SuspendPointParks :
    let s := flagged []
    NoInputTaken s ∧ s.run = .running ∧ s.intervalSteps = some 0 ∧ 0 < s.cfg.stepQuota ∧ s.justResumed = false ∧
      Config.suspendAt s.cfg s.pc = true := ⟨noInput_of_empty rfl, rfl, rfl, by decide, rfl, rfl⟩

theorem witness_ResumeExecutesTheFlaggedInstruction :
    let s := { flagged [(0x0600, 0xA9), (0x0601, 0x01)] with run := .suspended, intervalSteps := none, inbox := [.resume] }
    let r := { s with run := .running, justResumed := true, inbox := [], intervalCount := 1, intervalSteps := some 0 }
    let u := { r with a := 0x01, pc := 0x0602 }
    s.run = .suspended ∧ s.inbox = [.resume] ∧ s.intervalCount < s.cfg.maxIntervals ∧ 1 ≤ s.cfg.stepQuota ∧
      decode s.cfg s.fetchBytes = .ok (.ldaImm 0x01, [0x00, 0x00]) ∧ exec (.ldaImm 0x01) r = .next u ∧
      u.isHalted = false ∧ Config.suspendAt s.cfg s.pc = true :=
  ⟨rfl, rfl, by decide, by decide, rfl, rfl, rfl, rfl⟩

/-- Each clause, in the state where the input acts and in one where it does not; a resume and a drive at the interval
limit; one that waits; and a key inside an interval. -/
theorem witness_HostInputsActInTheirState :
    let go : State := { State.reset with inbox := [.go] }
    let park : State := { machine [] with intervalSteps := none, inbox := [.suspend] }
    let late : State := { State.reset with inbox := [.resume] }
    let last : State := { State.reset with run := .suspended, intervalCount := 1000, inbox := [.resume] }
    let drive : State := { machine [] with intervalSteps := none, intervalCount := 999, inbox := [.drive] }
    let wait : State := { machine [] with inbox := [.drive] }
    let key : State := { machine [] with inbox := [.key 0x41] }
    (go.hostHasControl = true ∧ go.inbox = .go :: [] ∧ go.run = .idle) ∧
      (park.hostHasControl = true ∧ park.inbox = .suspend :: [] ∧ park.run = .running) ∧
      (late.hostHasControl = true ∧ late.inbox = .resume :: [] ∧ late.run ≠ .suspended) ∧
      (last.hostHasControl = true ∧ last.run = .suspended ∧ last.cfg.maxIntervals ≤ last.intervalCount ∧
        after (step last) (fun t => (t.run, t.justResumed)) = some (.halted .intervalLimit, true)) ∧
      (drive.hostHasControl = true ∧ drive.inbox = .drive :: [] ∧ drive.run = .running ∧
        after (step drive) (fun t => (t.intervalCount, t.intervalSteps)) = some (1000, some 0)) ∧
      (wait.hostHasControl = false ∧ wait.inbox = .drive :: []) ∧ key.inbox = .key 0x41 :: [] := by decide

/-- Both clauses: one interval left, and none. -/
theorem witness_IntervalsStartUpToTheLimit :
    let s := { machine [] with intervalSteps := none, intervalCount := 999 }
    NoInputTaken s ∧ s.run = .running ∧ s.intervalSteps = none ∧ s.intervalCount < s.cfg.maxIntervals ∧
      s.cfg.maxIntervals ≤ ({ s with intervalCount := 1000 } : State).intervalCount :=
  ⟨noInput_of_empty rfl, rfl, rfl, by decide, by decide⟩

/-- Four of the moves: go/start, an opcode that halts, the budget spent, the interval limit reached. -/
theorem witness_RunStateMovesByTheTable :
    after (step { State.reset with inbox := [.go] }) (fun t => t.run) = some .running ∧
      after (step (machine [])) (fun t => t.run) = some (.halted (.brk 0x0600)) ∧
      after (step (serving 100)) (fun t => t.run) = some (.halted .runawayInterrupt) ∧
      after (step { machine [] with intervalSteps := none, intervalCount := 1000 }) (fun t => t.run) =
        some (.halted .intervalLimit) := by decide

theorem witness_HaltedIsForGood :
    let s := { machine [] with run := .halted .intervalLimit }
    s.run = .halted .intervalLimit ∧ s.inbox = [] ∧
      after (step { s with inbox := [.go] }) (fun t => t.run) = some (.halted .intervalLimit) := by decide

/-- Running, and Servicing with one step of the budget left. -/
theorem witness_EveryRunEnds :
    ((machine [(0x0600, 0xE8)]).Inv ∧ (machine [(0x0600, 0xE8)]).inbox = [] ∧ (machine [(0x0600, 0xE8)]).run = .running) ∧
      ((serving 99).Inv ∧ (serving 99).inbox = [] ∧ (serving 99).run = .servicing) :=
  ⟨⟨machine_inv, rfl, rfl⟩, ⟨by decide, by decide, fun _ h => (nomatch h), by decide, by decide, fun _ => rfl, fun h => (nomatch h)⟩,
    rfl, rfl⟩

end Sys2Proof.Tests
end

section
/-! The scope's state operations (00_scope.md): what the register setters write and what they leave unchanged. -/

namespace Sys2Proof.Claim

open Sys2Proof.Machine

/-- The Zero flag of a narrowed integer, in integer arithmetic (00_scope.md R11). -/
theorem ofInt_beq_zero (v : Int) : ((BitVec.ofInt 8 v : Byte) == 0) = decide (v % 256 = 0) := by
  have hzero : (BitVec.ofInt 8 v : Byte) = 0 ↔ v % 256 = 0 := by
    rw [← BitVec.toNat_inj, BitVec.toNat_ofInt, BitVec.ofNat_eq_ofNat, BitVec.toNat_zero]
    omega
  rw [Bool.eq_iff_iff, beq_iff_eq, decide_eq_true_iff, hzero]

/-- A state whose P is the old one with Z and N put from `v` has those two flags written and no other. -/
theorem flagsWritten_of_putNZ {s t : State} {v : Byte} (h : t.p = putNZ v s.p) : FlagsWritten (nz v) s t := by
  intro f
  rw [State.flag, h, getFlag_putNZ]
  cases f <;> rfl

/-- `flagsWritten_of_putNZ` for a narrowed integer, with Zero read off the integer (00_scope.md R11). -/
theorem flagsWritten_of_putNZ_ofInt {s t : State} {v : Int} (h : t.p = putNZ (BitVec.ofInt 8 v) s.p) :
    FlagsWritten [(.z, decide (v % 256 = 0)), (.n, (BitVec.ofInt 8 v).getLsbD 7)] s t := by
  rw [← ofInt_beq_zero]
  exact flagsWritten_of_putNZ h

/-- Settles O12: each register takes the byte or word it is given, and the P of SetA, SetX and SetY is `putNZ` of the old
one (00_scope.md R11). -/
theorem settersNarrowAndSetFlags : Obligations.SettersNarrowAndSetFlags := by
  intro s v b
  have hb : b.toNat = (v % 256).toNat := BitVec.toNat_ofInt v
  have hw : (BitVec.ofInt 16 v).toNat = (v % 65536).toNat := BitVec.toNat_ofInt v
  refine ⟨⟨?a, ?aFlags⟩, ⟨?x, ?xFlags⟩, ⟨?y, ?yFlags⟩, ⟨?pc, ?pcFlags⟩, ⟨?sp, ?spFlags⟩, ?p⟩
  case a => rw [State.setA_a, hb]
  case aFlags => exact flagsWritten_of_putNZ_ofInt (s.setA_p b)
  case x => rw [State.setX_x, hb]
  case xFlags => exact flagsWritten_of_putNZ_ofInt (s.setX_p b)
  case y => rw [State.setY_y, hb]
  case yFlags => exact flagsWritten_of_putNZ_ofInt (s.setY_p b)
  case pc => rw [State.setPC_pc, hw]
  case pcFlags => exact s.setPC_p _
  case sp => rw [State.setSP_sp, hb]
  case spFlags => exact s.setSP_p _
  case p => rw [State.setP_p, hb]

end Sys2Proof.Claim
end

section
/-! What an instruction may touch: a footprint, one rule for each state operation that stays inside it, and the footprint
of the shared operation behind each family of instructions (10_state.md R21 to R24, R39, R41 to R44). -/

namespace Sys2Proof.Machine

/-- What an instruction may change: the flags of its row (10_state.md R39), the registers beside PC, memory, the
in-progress mark (RTI), and the run state (BRK and ERR). -/
structure Footprint where
  flags : List Flag := []
  a : Bool := false
  x : Bool := false
  y : Bool := false
  sp : Bool := false
  mem : Bool := false
  clearsMark : Bool := false
  halts : Bool := false

/-- What every executed instruction keeps for the controller, as far as the invariant speaks of it: memory canonical, the
parameters and counters as they were, the mark at most cleared, the run state the same or Halted. -/
structure State.ControlKept (s t : State) : Prop where
  memWf : Memory.wf s.mem = true → Memory.wf t.mem = true
  cfg : t.cfg = s.cfg
  intervalCount : t.intervalCount = s.intervalCount
  intervalSteps : t.intervalSteps = s.intervalSteps
  serviceSteps : t.serviceSteps = s.serviceSteps
  mark : t.inProgress = true → s.inProgress = true
  run : t.run = s.run ∨ t.run.isHalted = true

/-- `t` comes from `s` by changes of the footprint `w`, of PC and of the counter of free values only. -/
structure State.Within (w : Footprint) (s t : State) : Prop extends State.ControlKept s t where
  flag : ∀ f, f ∉ w.flags → t.flag f = s.flag f
  a : w.a = false → t.a = s.a
  x : w.x = false → t.x = s.x
  y : w.y = false → t.y = s.y
  sp : w.sp = false → t.sp = s.sp
  mem : w.mem = false → t.mem = s.mem
  inProgress : w.clearsMark = false → t.inProgress = s.inProgress
  sameRun : w.halts = false → t.run = s.run
  justResumed : t.justResumed = s.justResumed
  keyQueue : t.keyQueue = s.keyQueue
  inbox : t.inbox = s.inbox
  emitted : t.emitted = s.emitted

namespace State.ControlKept

variable {s t u : State}

theorem refl (s : State) : ControlKept s s :=
  ⟨id, rfl, rfl, rfl, rfl, id, Or.inl rfl⟩

theorem trans (h : ControlKept s t) (k : ControlKept t u) : ControlKept s u where
  memWf hm := k.memWf (h.memWf hm)
  cfg := k.cfg.trans h.cfg
  intervalCount := k.intervalCount.trans h.intervalCount
  intervalSteps := k.intervalSteps.trans h.intervalSteps
  serviceSteps := k.serviceSteps.trans h.serviceSteps
  mark hu := h.mark (k.mark hu)
  run := by
    rcases k.run with hk | hk
    · rw [hk]
      exact h.run
    · exact Or.inr hk

end State.ControlKept

namespace State.Within

variable {w : Footprint} {s t : State}

theorem refl (w : Footprint) (s : State) : Within w s s where
  toControlKept := ControlKept.refl s
  flag _ _ := rfl
  a _ := rfl
  x _ := rfl
  y _ := rfl
  sp _ := rfl
  mem _ := rfl
  inProgress _ := rfl
  sameRun _ := rfl
  justResumed := rfl
  keyQueue := rfl
  inbox := rfl
  emitted := rfl

/-! ### One rule for each state operation -/

theorem setPC (h : Within w s t) (v : Word) : Within w s (t.setPC v) := { h with }

theorem advance (h : Within w s t) (n : Nat) : Within w s (t.advance n) := { h with }

theorem setSP (h : Within w s t) (hsp : w.sp = true) (v : Byte) : Within w s (t.setSP v) :=
  { h with sp := fun hw => absurd hsp (by simp [hw]) }

/-- A new P stays inside the footprint when it agrees with the old one on every other flag. -/
theorem setP (h : Within w s t) {v : Byte} (hv : ∀ f, f ∉ w.flags → getFlag f v = t.flag f) : Within w s (t.setP v) :=
  { h with flag := fun f hf => (hv f hf).trans (h.flag f hf) }

theorem setFlag (h : Within w s t) {f : Flag} (hf : f ∈ w.flags) (e : Bool) : Within w s (t.setFlag f e) :=
  h.setP fun _ hg => getFlag_putFlag_other e t.p (fun hgf => hg (hgf ▸ hf))

/-- `putNZ` agrees with the old P outside a footprint that has N and Z. -/
theorem getFlag_putNZ_outside (hn : .n ∈ w.flags) (hz : .z ∈ w.flags) (v p : Byte) (f : Flag) (hf : f ∉ w.flags) :
    getFlag f (putNZ v p) = getFlag f p := by
  have hfn : f ≠ .n := fun e => hf (e ▸ hn)
  have hfz : f ≠ .z := fun e => hf (e ▸ hz)
  rw [getFlag_putNZ, if_neg hfn, if_neg hfz]

theorem setA (h : Within w s t) (ha : w.a = true) (hn : .n ∈ w.flags) (hz : .z ∈ w.flags) (v : Byte) :
    Within w s (t.setA v) :=
  { h.setP (getFlag_putNZ_outside hn hz v t.p) with a := fun hw => absurd ha (by simp [hw]) }

theorem setX (h : Within w s t) (hx : w.x = true) (hn : .n ∈ w.flags) (hz : .z ∈ w.flags) (v : Byte) :
    Within w s (t.setX v) :=
  { h.setP (getFlag_putNZ_outside hn hz v t.p) with x := fun hw => absurd hx (by simp [hw]) }

theorem setY (h : Within w s t) (hy : w.y = true) (hn : .n ∈ w.flags) (hz : .z ∈ w.flags) (v : Byte) :
    Within w s (t.setY v) :=
  { h.setP (getFlag_putNZ_outside hn hz v t.p) with y := fun hw => absurd hy (by simp [hw]) }

theorem writeByte (h : Within w s t) (hmem : w.mem = true) (b : Word) (v : Byte) : Within w s (t.writeByte b v) :=
  { h with
    memWf := fun hm => writeByte_wf t b v (h.memWf hm)
    mem := fun hw => absurd hmem (by simp [hw]) }

theorem writeBlock (h : Within w s t) (hmem : w.mem = true) (dst : Word) (bs : List Byte) :
    Within w s (t.writeBlock dst bs) := by
  induction bs generalizing t dst with
  | nil => exact h
  | cons b rest ih => exact ih (h.writeByte hmem dst b) (dst + 1)

theorem push (h : Within w s t) (hsp : w.sp = true) (hmem : w.mem = true) (v : Byte) : Within w s (t.push v) :=
  (h.writeByte hmem (stackAddr t.sp) v).setSP hsp (t.sp - 1)

theorem dropTop (h : Within w s t) (hsp : w.sp = true) : Within w s t.dropTop := h.setSP hsp (t.sp + 1)

theorem raiseFatal (h : Within w s t) (hhalts : w.halts = true) (r : HaltReason) : Within w s (t.raiseFatal r) :=
  { h with
    run := Or.inr rfl
    sameRun := fun hw => absurd hhalts (by simp [hw]) }

theorem clearMark (h : Within w s t) (hclears : w.clearsMark = true) : Within w s { t with inProgress := false } :=
  { h with
    mark := fun hmark => nomatch hmark
    inProgress := fun hw => absurd hclears (by simp [hw]) }

/-- An operation that always answers a next state stays within what that state does. -/
theorem of_next {u : State} (h : (.next u : Result) = .next t) (hu : Within w s u) : Within w s t :=
  Host.Outcome.next.inj h ▸ hu

end State.Within

/-! ### The shared operations of the families -/

section Families

variable {f : Form} {s t : State}

theorem withValue_within {w : Footprint} {act : Byte → State → State} (h : withValue f s act = .next t)
    (hact : ∀ v u, State.Within w s u → State.Within w s (act v u)) : State.Within w s t := by
  obtain ⟨v, -, rfl⟩ := withValue_next h
  exact hact v _ ((State.Within.refl w s).advance _)

theorem withAddress_within {w : Footprint} {act : Word → State → State} (h : withAddress f s act = .next t)
    (hact : ∀ ea u, State.Within w s u → State.Within w s (act ea u)) : State.Within w s t := by
  obtain ⟨ea, -, rfl⟩ := withAddress_next h
  exact hact ea _ ((State.Within.refl w s).advance _)

/-- LDA, AND, ORA, EOR: the value query, then `SetA`. -/
theorem valueToA_within {g : Byte → State → Byte} (h : withValue f s (fun v u => u.setA (g v u)) = .next t) :
    State.Within { flags := [.n, .z], a := true } s t :=
  withValue_within h fun v u hu => hu.setA rfl (by decide) (by decide) (g v u)

theorem loadA_within (h : loadA f s = .next t) : State.Within { flags := [.n, .z], a := true } s t := valueToA_within h

theorem andA_within (h : andA f s = .next t) : State.Within { flags := [.n, .z], a := true } s t := valueToA_within h

theorem orA_within (h : orA f s = .next t) : State.Within { flags := [.n, .z], a := true } s t := valueToA_within h

theorem xorA_within (h : xorA f s = .next t) : State.Within { flags := [.n, .z], a := true } s t := valueToA_within h

theorem loadX_within (h : loadX f s = .next t) : State.Within { flags := [.n, .z], x := true } s t :=
  withValue_within h fun v _ hu => hu.setX rfl (by decide) (by decide) v

theorem loadY_within (h : loadY f s = .next t) : State.Within { flags := [.n, .z], y := true } s t :=
  withValue_within h fun v _ hu => hu.setY rfl (by decide) (by decide) v

theorem addA_within (h : addA f s = .next t) : State.Within { flags := [.n, .z, .c], a := true } s t :=
  withValue_within h fun _ _ hu => (hu.setFlag (by decide) _).setA rfl (by decide) (by decide) _

theorem subtractA_within (h : subtractA f s = .next t) :
    State.Within { flags := [.n, .v, .z, .c], a := true } s t :=
  withValue_within h fun _ _ hu =>
    ((hu.setFlag (by decide) _).setFlag (by decide) _).setA rfl (by decide) (by decide) _

/-- Compare agrees with the old P outside C, Z and N (42_arithmetic_compare.md R155). -/
theorem getFlag_compareFlags_outside (r m p : Byte) (g : Flag) (hg : g ∉ [Flag.n, .z, .c]) :
    getFlag g (compareFlags r m p) = getFlag g p := by
  simp only [List.mem_cons, List.not_mem_nil, or_false, not_or] at hg
  obtain ⟨hn, hz, hc⟩ := hg
  rw [getFlag_compareFlags, if_neg hn, if_neg hz, if_neg hc]

/-- CMP, CPX, CPY: the register `r` against the value. -/
theorem compare_within {r : State → Byte}
    (h : withValue f s (fun m u => u.setP (compareFlags (r u) m u.p)) = .next t) :
    State.Within { flags := [.n, .z, .c] } s t :=
  withValue_within h fun m u hu => hu.setP (getFlag_compareFlags_outside (r u) m u.p)

theorem compareA_within (h : compareA f s = .next t) : State.Within { flags := [.n, .z, .c] } s t := compare_within h

theorem compareX_within (h : compareX f s = .next t) : State.Within { flags := [.n, .z, .c] } s t := compare_within h

theorem compareY_within (h : compareY f s = .next t) : State.Within { flags := [.n, .z, .c] } s t := compare_within h

/-- BIT agrees with the old P outside N, V and Z (44_bit_logic.md R170). -/
theorem getFlag_bitFlags_outside (m a p : Byte) (g : Flag) (hg : g ∉ [Flag.n, .v, .z]) :
    getFlag g (bitFlags m a p) = getFlag g p := by
  simp only [List.mem_cons, List.not_mem_nil, or_false, not_or] at hg
  obtain ⟨hn, hv, hz⟩ := hg
  rw [getFlag_bitFlags, if_neg hn, if_neg hv, if_neg hz]

theorem bitTest_within (h : bitTest f s = .next t) : State.Within { flags := [.n, .v, .z] } s t :=
  withValue_within h fun m u hu => hu.setP (getFlag_bitFlags_outside m u.a u.p)

/-- STA, STX, STY, INC, DEC: the address query, then one byte written there. -/
theorem byteAtAddress_within {g : Word → State → Byte}
    (h : withAddress f s (fun ea u => u.writeByte ea (g ea u)) = .next t) : State.Within { mem := true } s t :=
  withAddress_within h fun ea u hu => hu.writeByte rfl ea (g ea u)

theorem storeA_within (h : storeA f s = .next t) : State.Within { mem := true } s t := byteAtAddress_within h

theorem storeX_within (h : storeX f s = .next t) : State.Within { mem := true } s t := byteAtAddress_within h

theorem storeY_within (h : storeY f s = .next t) : State.Within { mem := true } s t := byteAtAddress_within h

theorem incrementMem_within (h : incrementMem f s = .next t) : State.Within { mem := true } s t := byteAtAddress_within h

theorem decrementMem_within (h : decrementMem f s = .next t) : State.Within { mem := true } s t := byteAtAddress_within h

theorem shiftMem_within {op : Byte → Shifted} (h : shiftMem op f s = .next t) :
    State.Within { flags := [.c], mem := true } s t :=
  withAddress_within h fun ea _ hu => (hu.setFlag (by decide) _).writeByte rfl ea _

theorem shiftAcc_within {op : Byte → Shifted} (h : shiftAcc op s = .next t) :
    State.Within { flags := [.n, .z, .c], a := true } s t := by
  obtain rfl := shiftAcc_next h
  exact (((State.Within.refl _ s).advance _).setFlag (by decide) _).setA rfl (by decide) (by decide) _

theorem branchIf_within {taken : Bool} {off : Byte} (h : branchIf taken off s = .next t) : State.Within {} s t := by
  obtain ⟨-, rfl⟩ | ⟨-, rfl⟩ := branchIf_next h
  · exact (State.Within.refl _ s).setPC _
  · exact (State.Within.refl _ s).advance 2

theorem putOneFlag_within {g : Flag} {e : Bool} (h : putOneFlag g e s = .next t) :
    State.Within { flags := [g] } s t := by
  obtain rfl := putOneFlag_next h
  exact ((State.Within.refl _ s).advance 1).setFlag (List.mem_singleton_self g) e

/-- TXA, TYA: `SetA` behind the opcode. -/
theorem nextA_within {v : Byte} (h : (.next ((s.advance 1).setA v) : Result) = .next t) :
    State.Within { flags := [.n, .z], a := true } s t :=
  .of_next h (((State.Within.refl _ s).advance 1).setA rfl (by decide) (by decide) v)

/-- INX, DEX, TAX, TSX: `SetX` behind the opcode. -/
theorem nextX_within {v : Byte} (h : (.next ((s.advance 1).setX v) : Result) = .next t) :
    State.Within { flags := [.n, .z], x := true } s t :=
  .of_next h (((State.Within.refl _ s).advance 1).setX rfl (by decide) (by decide) v)

/-- INY, DEY, TAY: `SetY` behind the opcode. -/
theorem nextY_within {v : Byte} (h : (.next ((s.advance 1).setY v) : Result) = .next t) :
    State.Within { flags := [.n, .z], y := true } s t :=
  .of_next h (((State.Within.refl _ s).advance 1).setY rfl (by decide) (by decide) v)

theorem execPla_within (h : execPla s = .next t) : State.Within { flags := [.n, .z], a := true, sp := true } s t :=
  .of_next h ((((State.Within.refl _ s).advance 1).dropTop rfl).setA rfl (by decide) (by decide) _)

/-- A block copy run behind the instruction's four bytes. -/
theorem blockCopy_within {src dst : Word} {n k : Nat} (h : blockCopy src dst n (s.advance k) = .next t) :
    State.Within { mem := true } s t := by
  obtain ⟨-, -, -, rfl⟩ := blockCopy_next h
  exact ((State.Within.refl _ s).advance k).writeBlock rfl dst _

/-- PLP and RTI may write every flag: no flag lies outside their row (10_state.md R39). -/
theorem Flag.mem_all (f : Flag) : f ∈ [Flag.n, .v, .u, .b, .d, .i, .z, .c] := by cases f <;> decide

/-- A footprint with all eight flags puts no condition on P. -/
theorem State.Within.setP_all {w : Footprint} (h : State.Within w s t) (hw : w.flags = [.n, .v, .u, .b, .d, .i, .z, .c])
    (v : Byte) : State.Within w s (t.setP v) :=
  h.setP fun f hf => absurd (hw ▸ f.mem_all) hf

theorem returnFromInterrupt_within (s : State) :
    State.Within { flags := [.n, .v, .u, .b, .d, .i, .z, .c], sp := true, clearsMark := true } s
      s.returnFromInterrupt :=
  (((((((State.Within.refl _ s).dropTop rfl).setP_all rfl _).dropTop rfl).dropTop rfl).setPC _).clearMark rfl)

end Families

end Sys2Proof.Machine
end

section
/-! Every instruction stays within its footprint; what follows for the flags, the registers and memory. -/

namespace Sys2Proof.Claim

open Sys2Proof.Machine

/-- The one instruction that clears the in-progress mark (49_system_custom.md R237). -/
def clearsMark : Instr → Bool
  | .rti => true
  | _ => false

/-- The two instructions that halt the core (49_system_custom.md R235, R236). -/
def haltsCore : Instr → Bool
  | .brk => true
  | .err => true
  | _ => false

/-- The footprint of an instruction, read off the tables of its row. -/
def footprint (i : Instr) : Footprint where
  flags := flagRow i
  a := writesA i
  x := writesX i
  y := writesY i
  sp := writesSP i
  mem := storesMemory i
  clearsMark := clearsMark i
  halts := haltsCore i

/-- What an instruction can change, said once for all 154: it stays within its footprint. -/
theorem exec_within {i : Instr} {s t : State} (h : exec i s = .next t) : State.Within (footprint i) s t := by
  have hs (w : Footprint) : State.Within w s s := State.Within.refl w s
  unfold exec at h
  cases i with
  -- 41_load_store.md
  | ldaImm | ldaZp | ldaZpx | ldaAbs | ldaAbsx | ldaAbsy | ldaIndx | ldaIndy => exact loadA_within h
  | ldxImm | ldxZp | ldxZpy | ldxAbs | ldxAbsy => exact loadX_within h
  | ldyImm | ldyZp | ldyZpx | ldyAbs | ldyAbsx => exact loadY_within h
  | staZp | staZpx | staAbs | staAbsx | staAbsy | staIndx | staIndy => exact storeA_within h
  | stxZp | stxZpy | stxAbs => exact storeX_within h
  | styZp | styZpx | styAbs => exact storeY_within h
  -- 42_arithmetic_compare.md
  | cmpImm | cmpZp | cmpZpx | cmpAbs | cmpAbsx | cmpAbsy | cmpIndx | cmpIndy => exact compareA_within h
  | cpxImm | cpxZp | cpxAbs => exact compareX_within h
  | cpyImm | cpyZp | cpyAbs => exact compareY_within h
  | adcImm | adcZp | adcZpx | adcAbs | adcAbsx | adcAbsy | adcIndx | adcIndy => exact addA_within h
  | sbcImm | sbcZp | sbcZpx | sbcAbs | sbcAbsx | sbcAbsy | sbcIndx | sbcIndy => exact subtractA_within h
  -- 43_shift_rotate.md
  | aslAcc | lsrAcc | rolAcc | rorAcc => exact shiftAcc_within h
  | aslZp | aslZpx | aslAbs | aslAbsx | lsrZp | lsrZpx | lsrAbs | lsrAbsx
  | rolZp | rolZpx | rolAbs | rolAbsx | rorZp | rorZpx | rorAbs | rorAbsx => exact shiftMem_within h
  -- 44_bit_logic.md
  | bitZp | bitAbs => exact bitTest_within h
  | andImm | andZp | andZpx | andAbs | andAbsx | andAbsy | andIndx | andIndy => exact andA_within h
  | oraImm | oraZp | oraZpx | oraAbs | oraAbsx | oraAbsy | oraIndx | oraIndy => exact orA_within h
  | eorImm | eorZp | eorZpx | eorAbs | eorAbsx | eorAbsy | eorIndx | eorIndy => exact xorA_within h
  -- 45_incdec.md
  | incZp | incZpx | incAbs | incAbsx => exact incrementMem_within h
  | decZp | decZpx | decAbs | decAbsx => exact decrementMem_within h
  | inx | dex => exact nextX_within h
  | iny | dey => exact nextY_within h
  -- 46_transfer_stack.md
  | tax | tsx => exact nextX_within h
  | tay => exact nextY_within h
  | txa | tya => exact nextA_within h
  | txs => exact .of_next h (((hs _).advance 1).setSP rfl _)
  | pha | php => exact .of_next h (((hs _).advance 1).push rfl rfl _)
  | pla => exact execPla_within h
  | plp => exact .of_next h ((((hs _).advance 1).dropTop rfl).setP_all rfl _)
  -- 47_control_flow.md
  | bpl | bmi | bvc | bvs | bcc | bcs | bne | beq => exact branchIf_within h
  | jmpAbs | jmpInd => exact .of_next h ((hs _).setPC _)
  | jsr => exact .of_next h (((((hs _).advance 3).push rfl rfl _).push rfl rfl _).setPC _)
  | rts => exact .of_next h ((((hs _).dropTop rfl).dropTop rfl).setPC _)
  -- 48_flag_nop.md
  | clc | sec | cli | sei | clv | cld | sed => exact putOneFlag_within h
  | nop => exact .of_next h ((hs _).advance 1)
  -- 49_system_custom.md
  | brk | err => exact .of_next h ((hs _).raiseFatal rfl _)
  | rti => exact .of_next h (returnFromInterrupt_within s)
  | cbl | cbs => exact blockCopy_within h

/-- Settles O43: the flags outside the row are outside the footprint (10_state.md R39). -/
theorem flagsOutsideTheRowAreUnchanged : Obligations.FlagsOutsideTheRowAreUnchanged :=
  fun _ _ _ f h hf => (exec_within h).flag f hf

/-- Settles O44: the footprint holds a register, or memory, exactly for its writers (10_state.md R21 to R24). -/
theorem registersHaveTheirWritersOnly : Obligations.RegistersHaveTheirWritersOnly := by
  intro i s t h
  have hw := exec_within h
  exact ⟨hw.a, hw.x, hw.y, hw.sp, hw.mem⟩

end Sys2Proof.Claim
end

section
/-! The invariant: what keeps it in each action of the controller and in each input (60_exceptions.md R259, R267, R273). -/

namespace Sys2Proof.Machine

variable {s t u : State}

/-! ### What interrupt entry leaves to the controller (60_exceptions.md R266) -/

@[simp] theorem State.keyboardDrain_cfg (s : State) : s.keyboardDrain.cfg = s.cfg := by
  rw [keyboardDrain_eq]

@[simp] theorem State.keyboardDrain_intervalCount (s : State) : s.keyboardDrain.intervalCount = s.intervalCount := by
  rw [keyboardDrain_eq]

@[simp] theorem State.keyboardDrain_intervalSteps (s : State) : s.keyboardDrain.intervalSteps = s.intervalSteps := by
  rw [keyboardDrain_eq]

@[simp] theorem State.interruptEntry_run (s : State) : s.interruptEntry.run = .servicing :=
  congrArg State.run (interruptEntry_eq s)

@[simp] theorem State.interruptEntry_serviceSteps (s : State) : s.interruptEntry.serviceSteps = 0 :=
  congrArg State.serviceSteps (interruptEntry_eq s)

@[simp] theorem State.interruptEntry_cfg (s : State) : s.interruptEntry.cfg = s.cfg :=
  (congrArg State.cfg (interruptEntry_eq s)).trans s.keyboardDrain_cfg

@[simp] theorem State.interruptEntry_intervalCount (s : State) : s.interruptEntry.intervalCount = s.intervalCount :=
  (congrArg State.intervalCount (interruptEntry_eq s)).trans s.keyboardDrain_intervalCount

@[simp] theorem State.interruptEntry_intervalSteps (s : State) : s.interruptEntry.intervalSteps = s.intervalSteps :=
  (congrArg State.intervalSteps (interruptEntry_eq s)).trans s.keyboardDrain_intervalSteps

/-! ### One `Step()` of the spec -/

theorem consultDebug_controlKept (s : State) : State.ControlKept s s.consultDebug := by
  unfold State.consultDebug
  split
  · exact .refl s
  · exact { State.ControlKept.refl s with }

/-- A raise of a fatal event keeps what an instruction keeps, and halts. -/
theorem raiseFatal_controlKept (s : State) (r : HaltReason) : State.ControlKept s (s.raiseFatal r) :=
  { State.ControlKept.refl s with run := Or.inr rfl }

theorem executeOne_controlKept (h : executeOne s = .next t) : State.ControlKept s t := by
  obtain ⟨i, rest, -, hexec⟩ | ⟨-, hraise⟩ := executeOne_cases s
  · exact (Claim.exec_within (hexec ▸ h)).toControlKept
  · obtain rfl := Host.Outcome.next.inj (hraise ▸ h)
    exact raiseFatal_controlKept s _

theorem instructionStep_controlKept {rep : StepReport} (h : instructionStep s = .next (u, rep)) :
    State.ControlKept s u := by
  have hd := consultDebug_controlKept s
  obtain ⟨-, rfl, -⟩ | ⟨-, t, ht, hreport⟩ := instructionStep_next h
  · exact hd
  · have hst := hd.trans (executeOne_controlKept ht)
    obtain ⟨-, rfl, -⟩ | ⟨-, rfl, -⟩ := hreport
    · exact hst
    · exact { hst with }

/-- Everything one step of an interval can answer: an instruction counted, a suspend point, a fatal event. -/
theorem intervalStep_next {k : Nat} (h : intervalStep k s = .next t) :
    ∃ u rep, instructionStep s = .next (u, rep) ∧
      ((rep = .executed ∧ t = { u with intervalSteps := some (k + 1) }) ∨ (rep = .noInstruction ∧ t = u.park) ∨
        (rep = .raised ∧ t = u)) := by
  unfold intervalStep at h
  split at h
  next u hu => exact ⟨u, _, hu, Or.inl ⟨rfl, (Host.Outcome.next.inj h).symm⟩⟩
  next u hu => exact ⟨u, _, hu, Or.inr (Or.inl ⟨rfl, (Host.Outcome.next.inj h).symm⟩)⟩
  next u hu => exact ⟨u, _, hu, Or.inr (Or.inr ⟨rfl, (Host.Outcome.next.inj h).symm⟩)⟩
  next => cases h
  next => cases h

/-- Everything one step of the service loop can answer: an instruction counted, a fatal event. -/
theorem serviceStep_next (h : serviceStep s = .next t) :
    ∃ u rep, instructionStep s = .next (u, rep) ∧
      ((rep = .executed ∧ t = { u with serviceSteps := u.serviceSteps + 1 }) ∨ (rep = .raised ∧ t = u)) := by
  unfold serviceStep at h
  split at h
  next u hu => exact ⟨u, _, hu, Or.inl ⟨rfl, (Host.Outcome.next.inj h).symm⟩⟩
  next => cases h
  next u hu => exact ⟨u, _, hu, Or.inr ⟨rfl, (Host.Outcome.next.inj h).symm⟩⟩
  next => cases h
  next => cases h

/-! ### No operation of the controller writes a parameter (10_state.md R46, R47) -/

theorem intervalStep_cfg {k : Nat} (h : intervalStep k s = .next t) : t.cfg = s.cfg := by
  obtain ⟨u, rep, hu, hreport⟩ := intervalStep_next h
  have hcfg := (instructionStep_controlKept hu).cfg
  obtain ⟨-, rfl⟩ | ⟨-, rfl⟩ | ⟨-, rfl⟩ := hreport <;> exact hcfg

theorem serviceStep_cfg (h : serviceStep s = .next t) : t.cfg = s.cfg := by
  obtain ⟨u, rep, hu, hreport⟩ := serviceStep_next h
  have hcfg := (instructionStep_controlKept hu).cfg
  obtain ⟨-, rfl⟩ | ⟨-, rfl⟩ := hreport <;> exact hcfg

@[simp] theorem State.startInterval_cfg (s : State) : s.startInterval.cfg = s.cfg := by
  obtain ⟨-, h⟩ | ⟨-, h⟩ := startInterval_cases s <;> rw [h]
  exact s.halt_cfg _

@[simp] theorem State.endInterval_cfg (s : State) : s.endInterval.cfg = s.cfg := by
  obtain ⟨-, h⟩ | ⟨-, h⟩ := endInterval_cases s <;> rw [h]
  exact State.interruptEntry_cfg _

theorem controllerAction_cfg (h : controllerAction s = .next t) : t.cfg = s.cfg := by
  obtain ⟨-, rfl⟩ | ⟨-, -, rfl⟩ | ⟨k, -, -, -, hstep⟩ | ⟨k, -, -, -, rfl⟩ | ⟨-, -, -, hstep⟩ | ⟨-, -, -, rfl⟩ | ⟨-, -, rfl⟩ :=
    controllerAction_next h
  · rfl
  · exact s.startInterval_cfg
  · exact intervalStep_cfg hstep
  · exact s.endInterval_cfg
  · exact serviceStep_cfg hstep
  · exact s.halt_cfg _
  · exact s.endService_cfg

theorem State.takeInput_cfg (s : State) (i : Input) : (s.takeInput i).cfg = s.cfg := by
  cases i with
  | reset => exact s.applyReset_cfg
  | key code => exact s.pressKey_cfg code
  | go => cases hr : s.run <;> simp [State.takeInput, State.goStart, hr]
  | suspend => cases hr : s.run <;> simp [State.takeInput, State.hostSuspend, hr]
  | resume => cases hr : s.run <;> simp [State.takeInput, State.hostResume, hr]
  | drive => cases hr : s.run <;> simp [State.takeInput, State.hostDrive, hr]

/-! ### What keeps the invariant -/

theorem RunState.servicingOrHalted_of_isHalted {r : RunState} (h : r.isHalted = true) : r.servicingOrHalted = true := by
  cases r with
  | halted reason => rfl
  | idle | running | servicing | suspended => cases h

theorem RunState.runningOrHalted_of_isHalted {r : RunState} (h : r.isHalted = true) : r.runningOrHalted = true := by
  cases r with
  | halted reason => rfl
  | idle | running | servicing | suspended => cases h

namespace State.Inv

/-- The invariant does not speak of the inputs that wait. -/
theorem setInbox (hi : s.Inv) (rest : List Input) : { s with inbox := rest }.Inv := { hi with }

/-- What an executed instruction keeps is enough for the invariant. -/
theorem of_controlKept (hi : s.Inv) (h : State.ControlKept s t) : t.Inv where
  memWf := h.memWf hi.memWf
  cfgWf := h.cfg ▸ hi.cfgWf
  quota k hk := h.cfg ▸ hi.quota k (h.intervalSteps ▸ hk)
  budget := h.cfg ▸ h.serviceSteps ▸ hi.budget
  limit := h.cfg ▸ h.intervalCount ▸ hi.limit
  marked hm := by
    obtain hrun | hhalted := h.run
    · exact hrun ▸ hi.marked (h.mark hm)
    · exact RunState.servicingOrHalted_of_isHalted hhalted
  underWay hu := by
    obtain hrun | hhalted := h.run
    · exact hrun ▸ hi.underWay (h.intervalSteps ▸ hu)
    · exact RunState.runningOrHalted_of_isHalted hhalted

/-- The run state may move to any that the mark and the interval under way allow. -/
theorem setRun (hi : s.Inv) (r : RunState) (hm : s.inProgress = true → r.servicingOrHalted = true)
    (hu : s.intervalSteps.isSome = true → r.runningOrHalted = true) : { s with run := r }.Inv :=
  { hi with
    marked := hm
    underWay := hu }

/-- Outside the service loop and the Halted states no interrupt is in progress (60_exceptions.md R270). -/
theorem not_inProgress (hi : s.Inv) (hr : s.run.servicingOrHalted = false) : s.inProgress = false := by
  by_contra hm
  simp [hi.marked (by simpa using hm)] at hr

/-- Outside Running and the Halted states no interval is under way (60_exceptions.md R259). -/
theorem no_interval (hi : s.Inv) (hr : s.run.runningOrHalted = false) : s.intervalSteps = none := by
  by_contra hk
  simp [hi.underWay (Option.isSome_iff_ne_none.mpr hk)] at hr

theorem halt (hi : s.Inv) (r : HaltReason) : (s.halt r).Inv :=
  hi.setRun (.halted r) (fun _ => rfl) (fun _ => rfl)

/-- A Running machine starts an interval, or halts at the limit (60_exceptions.md R273, R274). -/
theorem startInterval (hi : s.Inv) (hr : s.run = .running) : s.startInterval.Inv := by
  obtain ⟨-, h⟩ | ⟨hlt, h⟩ := startInterval_cases s <;> rw [h]
  · exact hi.halt .intervalLimit
  · exact { hi with
      quota := by
        rintro k ⟨⟩
        exact Nat.zero_le _
      limit := hlt
      underWay := fun _ => hr ▸ rfl }

theorem clearInterval (hi : s.Inv) : { s with intervalSteps := none }.Inv :=
  { hi with
    quota := fun _ hk => nomatch hk
    underWay := fun hu => nomatch hu }

/-- Interrupt entry, at the end of an interval's steps (60_exceptions.md R264, R266). -/
theorem interruptEntry (hi : s.Inv) (hk : s.intervalSteps = none) : s.interruptEntry.Inv where
  memWf := interruptEntry_wf s hi.memWf
  cfgWf := s.interruptEntry_cfg ▸ hi.cfgWf
  quota k h := by simp [hk] at h
  budget := by simp
  limit := by simpa using hi.limit
  marked _ := by simp [RunState.servicingOrHalted]
  underWay h := by simp [hk] at h

theorem endInterval (hi : s.Inv) : s.endInterval.Inv := by
  obtain ⟨-, h⟩ | ⟨-, h⟩ := endInterval_cases s <;> rw [h]
  · exact hi.clearInterval
  · exact hi.clearInterval.interruptEntry rfl

/-- The service loop ends with the mark cleared (60_exceptions.md R267, R269). -/
theorem endService (hi : s.Inv) (hm : s.inProgress = false) : s.endService.Inv :=
  { hi with
    budget := Nat.zero_le _
    marked := fun h => by simp [hm] at h
    underWay := fun _ => rfl }

/-- One step of an interval within the quota (60_exceptions.md R273). -/
theorem intervalStep {k : Nat} (hi : s.Inv) (hr : s.run = .running) (hk : s.intervalSteps = some k)
    (hlt : k < s.cfg.stepQuota) (h : intervalStep k s = .next t) : t.Inv := by
  obtain ⟨u, rep, hu, hreport⟩ := intervalStep_next h
  have hkept := instructionStep_controlKept hu
  have hui := hi.of_controlKept hkept
  have hidle : u.inProgress = false := by
    by_contra hm
    have hmarked : s.inProgress = true := hkept.mark (by simpa using hm)
    simp [hi.not_inProgress (hr ▸ rfl)] at hmarked
  obtain ⟨-, rfl⟩ | ⟨-, rfl⟩ | ⟨-, rfl⟩ := hreport
  · exact { hui with
      quota := by
        rintro _ ⟨⟩
        exact hkept.cfg ▸ hlt
      underWay := fun _ => hui.underWay (by simp [hkept.intervalSteps, hk]) }
  · exact hui.clearInterval.setRun .suspended (by simp [hidle]) (fun hsome => nomatch hsome)
  · exact hui

/-- One step of the service loop within the budget (60_exceptions.md R267). -/
theorem serviceStep (hi : s.Inv) (hlt : s.serviceSteps < s.cfg.intStepBudget) (h : serviceStep s = .next t) :
    t.Inv := by
  obtain ⟨u, rep, hu, hreport⟩ := serviceStep_next h
  have hkept := instructionStep_controlKept hu
  have hui := hi.of_controlKept hkept
  obtain ⟨-, rfl⟩ | ⟨-, rfl⟩ := hreport
  · exact { hui with budget := by simpa [hkept.cfg, hkept.serviceSteps] using hlt }
  · exact hui

theorem controllerAction (hi : s.Inv) (h : controllerAction s = .next t) : t.Inv := by
  obtain ⟨-, rfl⟩ | ⟨hr, -, rfl⟩ | ⟨k, hr, hk, hlt, hstep⟩ | ⟨k, -, -, -, rfl⟩ | ⟨-, -, hlt, hstep⟩ | ⟨-, -, -, rfl⟩ |
    ⟨-, hm, rfl⟩ := controllerAction_next h
  · exact hi
  · exact hi.startInterval hr
  · exact hi.intervalStep hr hk hlt hstep
  · exact hi.endInterval
  · exact hi.serviceStep hlt hstep
  · exact hi.halt .runawayInterrupt
  · exact hi.endService hm

/-! ### Boot, reset and the other inputs -/

/-- The invariant at boot (10_state.md R49, 70_reset_and_hazards.md R301). -/
theorem boot {c : Config} {image : Memory} (hc : c.wf = true) (hm : Memory.wf image = true) : (State.boot c image).Inv where
  memWf := hm
  cfgWf := hc
  quota _ hk := nomatch hk
  budget := Nat.zero_le _
  limit := Nat.zero_le _
  marked h := nomatch h
  underWay h := nomatch h

theorem applyReset (hi : s.Inv) : s.applyReset.Inv := { boot hi.cfgWf hi.memWf with }

theorem goStart (hi : s.Inv) : s.goStart.Inv := by
  unfold State.goStart
  split
  next hr => exact hi.setRun .running (by simp [hi.not_inProgress (hr ▸ rfl)]) (fun _ => rfl)
  next => exact hi

/-- The host suspends a Running machine between intervals only (60_exceptions.md R276). -/
theorem hostSuspend (hi : s.Inv) (hc : s.hostHasControl = true) : s.hostSuspend.Inv := by
  unfold State.hostSuspend
  split
  next hr =>
    have hk : s.intervalSteps = none := by simpa [State.hostHasControl, hr] using hc
    exact hi.setRun .suspended (by simp [hi.not_inProgress (hr ▸ rfl)]) (by simp [hk])
  next => exact hi

theorem hostResume (hi : s.Inv) : s.hostResume.Inv := by
  unfold State.hostResume
  split
  next hr =>
    have hrunning : { s with run := .running }.Inv :=
      hi.setRun .running (by simp [hi.not_inProgress (hr ▸ rfl)]) (fun _ => rfl)
    exact State.Inv.startInterval { hrunning with } rfl
  next => exact hi

theorem hostDrive (hi : s.Inv) : s.hostDrive.Inv := by
  unfold State.hostDrive
  split
  next hr => exact hi.startInterval hr
  next => exact hi

theorem takeInput (hi : s.Inv) {i : Input} (hmay : s.mayTake i = true) : (s.takeInput i).Inv := by
  cases i with
  | reset => exact hi.applyReset
  | go => exact hi.goStart
  | suspend => exact hi.hostSuspend hmay
  | resume => exact hi.hostResume
  | drive => exact hi.hostDrive
  | key code => exact { hi with }

end State.Inv

end Sys2Proof.Machine
end

section
/-! What every step keeps, and what reset gives (10_state.md R44 to R49). -/

namespace Sys2Proof.Claim

open Sys2Proof.Machine

/-- Settles O7: an input that may be taken keeps the invariant, and so does every action of the controller. -/
theorem stepKeepsTheInvariant : Obligations.StepKeepsTheInvariant := by
  intro s t hi h
  obtain ⟨i, rest, -, hmay, rfl⟩ | ⟨-, haction⟩ := step_next h
  · exact (hi.setInbox rest).takeInput hmay
  · exact hi.controllerAction haction

/-- Settles O10: neither an input nor an action of the controller writes a parameter (10_state.md R46, R47). -/
theorem stepNeverWritesParameters : Obligations.StepNeverWritesParameters := by
  intro s t h
  obtain ⟨i, rest, -, -, rfl⟩ | ⟨-, haction⟩ := step_next h
  · exact State.takeInput_cfg _ i
  · exact controllerAction_cfg haction

/-- Settles O6: reset is boot with the default parameters and nothing loaded (10_state.md R49). -/
theorem resetMeetsTheInvariant : Obligations.ResetMeetsTheInvariant :=
  ⟨State.Inv.boot State.reset_cfg_wf State.reset_mem_wf, fun _ _ hc hm => State.Inv.boot hc hm⟩

/-- A waiting reset is taken in any run state (70_reset_and_hazards.md R300; log entry 11). -/
theorem step_of_reset {s : State} {rest : List Input} (h : s.inbox = .reset :: rest) :
    step s = .next { s with inbox := rest }.applyReset := by
  simp [step, controllerStep, h, State.mayTake, State.takeInput]

/-- Settles O11: the fields of `applyReset` (10_state.md R49). -/
theorem resetInputResets : Obligations.ResetInputResets := by
  intro s rest h
  refine ⟨{ s with inbox := rest }.applyReset, step_of_reset h, ?_⟩
  simp

end Sys2Proof.Claim
end

section
/-! Memory as the fetch sees it (20_memory.md): instruction and data accesses go to the one store. -/

namespace Sys2Proof.Machine

/-- Each of the fetched bytes is a read of memory, at PC plus its index, wrapping (10_state.md R27, 20_memory.md R61). -/
theorem fetchBytes_getElem? (s : State) {k : Nat} (hk : k < 4) :
    s.fetchBytes[k]? = some (s.readByte (s.pc + BitVec.ofNat 16 k)) := by
  have hlen : k < (s.readBlock s.pc 4).length := by rwa [readBlock_length]
  rw [State.fetchBytes, List.getElem?_eq_getElem hlen, readBlock_getElem]

end Sys2Proof.Machine

namespace Sys2Proof.Claim

open Sys2Proof.Machine

/-- Settles O8: the store leaves PC, so the fetch reads the very address stored to, whose byte is then the stored one
(20_memory.md R76). -/
theorem storedByteIsFetched : Obligations.StoredByteIsFetched := by
  intro s k v hm hk
  rw [fetchBytes_getElem? _ hk, State.writeByte_pc, readByte_writeByte_same s _ v hm]

end Sys2Proof.Claim
end

section
/-! The dispatch table as one list of rows, and what `encode` and `decode` say of it (30_encoding.md R90 to R100). -/

namespace Sys2Proof

/-- The dispatch table of a parameter set: the three custom rows at their parameters (30_encoding.md R99), then the
standard rows. -/
def Config.rows (c : Config) : List Row :=
  ⟨c.opcCbl, .custom, .f4 .cbl⟩ :: ⟨c.opcCbs, .custom, .f4 .cbs⟩ :: ⟨c.opcErr, .custom, .f1 .err⟩ :: standardRows

/-- The rows of a tier are in the catalogue (30_encoding.md R100). -/
def Config.hasTier (c : Config) : Tier → Bool
  | .core => true
  | .custom => true
  | .compat => c.compatExt

theorem Instr.wf_eq_hasTier (c : Config) (i : Instr) : i.wf c = c.hasTier i.tier := rfl

/-- `e.Makes bs i`: of the operand bytes `bs`, no more and no fewer, the entry `e` makes the instruction `i`
(30_encoding.md R90, R91). -/
inductive Entry.Makes : Entry → List Byte → Instr → Prop
  | f1 (i : Instr) : Makes (.f1 i) [] i
  | f2 (mk : Byte → Instr) (v : Byte) : Makes (.f2 mk) [v] (mk v)
  | f3 (mk : Word → Instr) (a : Word) : Makes (.f3 mk) [loByte a, hiByte a] (mk a)
  | f4 (mk : Word → Byte → Instr) (a : Word) (len : Byte) : Makes (.f4 mk) [loByte a, hiByte a, len] (mk a len)

/-- A row of the opcode map, by the high digit of its opcode bytes (30_encoding.md R98). -/
def opcodeMapRow : Nat → List Row
  | 0x0 => rows0x
  | 0x1 => rows1x
  | 0x2 => rows2x
  | 0x3 => rows3x
  | 0x4 => rows4x
  | 0x5 => rows5x
  | 0x6 => rows6x
  | 0x7 => rows7x
  | 0x8 => rows8x
  | 0x9 => rows9x
  | 0xA => rowsAx
  | 0xB => rowsBx
  | 0xC => rowsCx
  | 0xD => rowsDx
  | 0xE => rowsEx
  | 0xF => rowsFx
  | _ => []

/-! ### Operand assembly -/

/-- Operand assembly takes the entry's operand bytes off the front and leaves the rest (30_encoding.md R91, R93). -/
theorem assemble_eq_some_iff {e : Entry} {operands rest : List Byte} {i : Instr} :
    e.assemble operands = some (i, rest) ↔ ∃ bs, e.Makes bs i ∧ operands = bs ++ rest := by
  constructor
  · intro h
    match e, operands, h with
    | .f1 i, _, rfl => exact ⟨_, .f1 i, rfl⟩
    | .f2 mk, v :: _, rfl => exact ⟨_, .f2 mk v, rfl⟩
    | .f3 mk, lo :: hi :: _, rfl => exact ⟨_, .f3 mk (wordOf lo hi), by simp⟩
    | .f4 mk, lo :: hi :: len :: _, rfl => exact ⟨_, .f4 mk (wordOf lo hi) len, by simp⟩
  · rintro ⟨bs, hmakes, rfl⟩
    cases hmakes <;> simp [Entry.assemble]

/-! ### The rows -/

theorem standardRows_eq_flatMap : standardRows = (List.range 16).flatMap opcodeMapRow := by
  simp [List.range_succ, standardRows, opcodeMapRow]

theorem mem_standardRows_iff {r : Row} : r ∈ standardRows ↔ ∃ n < 16, r ∈ opcodeMapRow n := by
  rw [standardRows_eq_flatMap, List.mem_flatMap]
  simp only [List.mem_range]

/-- The check of the opcode map against `encode` and the tiers, row by row (30_encoding.md R98, R100): each entry makes its
instructions from the operand bytes written behind its opcode byte. -/
theorem encode_of_makes_opcodeMapRow (c : Config) {n : Nat} {r : Row} {bs : List Byte} {i : Instr}
    (hr : r ∈ opcodeMapRow n) (hmakes : r.entry.Makes bs i) : encode c i = r.opcode :: bs ∧ i.tier = r.tier := by
  unfold opcodeMapRow at hr
  split at hr
  all_goals
    fin_cases hr
    all_goals
      cases hmakes
      exact ⟨rfl, rfl⟩

/-- An instruction a row makes is encoded as the row's opcode byte and the operand bytes, and is of the row's tier. -/
theorem encode_of_makes {c : Config} {r : Row} {bs : List Byte} {i : Instr} (hr : r ∈ c.rows)
    (hmakes : r.entry.Makes bs i) : encode c i = r.opcode :: bs ∧ i.tier = r.tier := by
  obtain rfl | rfl | rfl | hr : r = _ ∨ r = _ ∨ r = _ ∨ r ∈ standardRows := by simpa [Config.rows] using hr
  case inr.inr.inr =>
    obtain ⟨n, -, hr⟩ := mem_standardRows_iff.mp hr
    exact encode_of_makes_opcodeMapRow c hr hmakes
  all_goals
    cases hmakes
    exact ⟨rfl, rfl⟩

/-- Every instruction is made by a row: the standard ones by the row found under the byte `encode` writes first
(30_encoding.md R98, R99). The cases stand by format (30_encoding.md R90). -/
theorem exists_row (c : Config) (i : Instr) : ∃ r ∈ c.rows, ∃ bs, r.entry.Makes bs i := by
  have standard {op : Byte} {r : Row} {bs : List Byte} (hop : (encode c i).head? = some op)
      (hfind : findRow op (opcodeMapRow (op.toNat / 16)) = some r)
      (hmakes : r.entry.Makes bs i) : ∃ r ∈ c.rows, ∃ bs, r.entry.Makes bs i :=
    have hr := mem_standardRows_iff.mpr ⟨op.toNat / 16, by have := op.isLt; omega, (findRow_some _ _ r hfind).1⟩
    ⟨r, by simp [Config.rows, hr], bs, hmakes⟩
  cases i with
  | aslAcc | lsrAcc | rolAcc | rorAcc | inx | iny | dex | dey | tax | tay | txa | tya | tsx | txs | pha | pla | php | plp
  | rts | clc | sec | cli | sei | clv | cld | sed | nop | brk | rti => exact standard rfl rfl (.f1 _)
  | ldaImm v | ldaZp v | ldaZpx v | ldaIndx v | ldaIndy v | ldxImm v | ldxZp v | ldxZpy v | ldyImm v | ldyZp v | ldyZpx v
  | staZp v | staZpx v | staIndx v | staIndy v | stxZp v | stxZpy v | styZp v | styZpx v | cmpImm v | cmpZp v | cmpZpx v
  | cmpIndx v | cmpIndy v | cpxImm v | cpxZp v | cpyImm v | cpyZp v | adcImm v | adcZp v | adcZpx v | adcIndx v | adcIndy v
  | sbcImm v | sbcZp v | sbcZpx v | sbcIndx v | sbcIndy v | aslZp v | aslZpx v | lsrZp v | lsrZpx v | rolZp v | rolZpx v
  | rorZp v | rorZpx v | bitZp v | andImm v | andZp v | andZpx v | andIndx v | andIndy v | oraImm v | oraZp v | oraZpx v
  | oraIndx v | oraIndy v | eorImm v | eorZp v | eorZpx v | eorIndx v | eorIndy v | incZp v | incZpx v | decZp v | decZpx v
  | bpl v | bmi v | bvc v | bvs v | bcc v | bcs v | bne v | beq v => exact standard rfl rfl (.f2 _ v)
  | ldaAbs a | ldaAbsx a | ldaAbsy a | ldxAbs a | ldxAbsy a | ldyAbs a | ldyAbsx a | staAbs a | staAbsx a | staAbsy a
  | stxAbs a | styAbs a | cmpAbs a | cmpAbsx a | cmpAbsy a | cpxAbs a | cpyAbs a | adcAbs a | adcAbsx a | adcAbsy a
  | sbcAbs a | sbcAbsx a | sbcAbsy a | aslAbs a | aslAbsx a | lsrAbs a | lsrAbsx a | rolAbs a | rolAbsx a | rorAbs a
  | rorAbsx a | bitAbs a | andAbs a | andAbsx a | andAbsy a | oraAbs a | oraAbsx a | oraAbsy a | eorAbs a | eorAbsx a
  | eorAbsy a | incAbs a | incAbsx a | decAbs a | decAbsx a | jmpAbs a | jmpInd a | jsr a => exact standard rfl rfl (.f3 _ a)
  | err => exact ⟨_, .tail _ (.tail _ (.head _)), _, .f1 _⟩
  | cbl a len => exact ⟨_, .head _, _, .f4 _ a len⟩
  | cbs a len => exact ⟨_, .tail _ (.head _), _, .f4 _ a len⟩

/-! ### Dispatch -/

/-- Rows with distinct opcode bytes are each found under their own. -/
theorem findRow_of_mem {rows : List Row} {r : Row} (hdistinct : rows.Pairwise (fun q r => q.opcode ≠ r.opcode))
    (hr : r ∈ rows) : findRow r.opcode rows = some r := by
  induction rows with
  | nil => cases hr
  | cons q rest ih =>
    obtain ⟨hq, hrest⟩ := List.pairwise_cons.mp hdistinct
    obtain rfl | hr := List.mem_cons.mp hr
    · exact if_pos rfl
    · rw [findRow, if_neg (hq r hr), ih hrest hr]

theorem standardRows_distinct : standardRows.Pairwise (fun q r => q.opcode ≠ r.opcode) :=
  (List.pairwise_map.mp standardRows_opcodes_rising).imp fun hlt heq => absurd (congrArg BitVec.toNat heq) hlt.ne

/-- A standard byte has the entry of its row, when the row's tier is in the catalogue (30_encoding.md R100). -/
theorem standardEntry_eq_some_iff {c : Config} {op : Byte} {e : Entry} :
    standardEntry c op = some e ↔ ∃ r ∈ standardRows, r.opcode = op ∧ r.entry = e ∧ c.hasTier r.tier = true := by
  constructor
  · intro h
    unfold standardEntry at h
    split at h
    next => cases h
    next r hfind =>
      obtain ⟨hr, hop⟩ := findRow_some op _ r hfind
      refine ⟨r, hr, hop, ?_⟩
      cases ht : r.tier <;> simpa [ht, Config.hasTier, and_comm] using h
  · rintro ⟨r, hr, rfl, rfl, hcat⟩
    rw [standardEntry, findRow_of_mem standardRows_distinct hr]
    cases ht : r.tier with
    | core | custom => simp [ht]
    | compat => simpa [ht, Config.hasTier] using hcat

/-- The dispatch table is the list of rows, without those outside the catalogue (30_encoding.md R94, R99, R100). -/
theorem dispatch_eq_some_iff {c : Config} (hc : c.wf = true) {op : Byte} {e : Entry} :
    dispatch c op = some e ↔ ∃ r ∈ c.rows, r.opcode = op ∧ r.entry = e ∧ c.hasTier r.tier = true := by
  constructor
  · intro h
    unfold dispatch at h
    split at h
    next hop =>
      exact ⟨_, .head _, hop.symm, Option.some.inj h, rfl⟩
    split at h
    next hop =>
      exact ⟨_, .tail _ (.head _), hop.symm, Option.some.inj h, rfl⟩
    split at h
    next hop =>
      exact ⟨_, .tail _ (.tail _ (.head _)), hop.symm, Option.some.inj h, rfl⟩
    next =>
      obtain ⟨r, hr, hrow⟩ := standardEntry_eq_some_iff.mp h
      exact ⟨r, .tail _ (.tail _ (.tail _ hr)), hrow⟩
  · rintro ⟨r, hr, rfl, rfl, hcat⟩
    obtain ⟨hblbs, hblerr, hbserr, -⟩ := c.wf_opcodes hc
    obtain rfl | rfl | rfl | hr : r = _ ∨ r = _ ∨ r = _ ∨ r ∈ standardRows := by simpa [Config.rows] using hr
    · exact if_pos rfl
    · simp [dispatch, hblbs.symm]
    · simp [dispatch, hblerr.symm, hbserr.symm]
    · have hdoc : r.opcode ∈ documentedOpcodes := standardRows_opcodes ▸ List.mem_map_of_mem hr
      rw [dispatch_documented c hc _ hdoc]
      exact standardEntry_eq_some_iff.mpr ⟨r, hr, rfl, rfl, hcat⟩

/-! ### The decoder -/

/-- The decoder's answers: the entry of the first byte, and the operands it assembles (30_encoding.md R92 to R95). -/
theorem decode_eq_ok_iff {c : Config} {bytes rest : List Byte} {i : Instr} :
    decode c bytes = .ok (i, rest) ↔
      ∃ op operands e, bytes = op :: operands ∧ dispatch c op = some e ∧ e.assemble operands = some (i, rest) := by
  cases bytes with
  | nil => simp [decode]
  | cons op operands =>
    cases hentry : dispatch c op with
    | none => simp [decode, hentry]
    | some e => cases hops : e.assemble operands <;> simp [decode, hentry, hops]

/-- Decoding inverts encoding on the instructions of the catalogue, and on nothing else. -/
theorem decode_eq_ok_iff_encode {c : Config} (hc : c.wf = true) {bytes rest : List Byte} {i : Instr} :
    decode c bytes = .ok (i, rest) ↔ bytes = encode c i ++ rest ∧ i.wf c = true := by
  rw [decode_eq_ok_iff]
  constructor
  · rintro ⟨op, operands, e, rfl, hentry, hops⟩
    obtain ⟨r, hr, rfl, rfl, hcat⟩ := (dispatch_eq_some_iff hc).mp hentry
    obtain ⟨bs, hmakes, rfl⟩ := assemble_eq_some_iff.mp hops
    obtain ⟨henc, htier⟩ := encode_of_makes hr hmakes
    rw [henc, Instr.wf_eq_hasTier, htier]
    exact ⟨rfl, hcat⟩
  · rintro ⟨rfl, hwf⟩
    obtain ⟨r, hr, bs, hmakes⟩ := exists_row c i
    obtain ⟨henc, htier⟩ := encode_of_makes hr hmakes
    rw [Instr.wf_eq_hasTier, htier] at hwf
    exact ⟨r.opcode, bs ++ rest, r.entry, by rw [henc, List.cons_append],
      (dispatch_eq_some_iff hc).mpr ⟨r, hr, rfl, rfl, hwf⟩, assemble_eq_some_iff.mpr ⟨bs, hmakes, rfl⟩⟩

end Sys2Proof

namespace Sys2Proof.Claim

/-- Settles O1: every instruction is made by a row, and the table finds that row under its own byte (30_encoding.md R90,
R91, R94). -/
theorem decodeOfEncodeIsTheInstruction : Obligations.DecodeOfEncodeIsTheInstruction :=
  fun _ _ _ hc hi => (decode_eq_ok_iff_encode hc).mpr ⟨rfl, hi⟩

/-- Settles O2: the row the table finds encodes what its entry makes of the operand bytes (30_encoding.md R93 to R97). -/
theorem decodedBytesAreTheEncoding : Obligations.DecodedBytesAreTheEncoding :=
  fun _ _ _ _ hc h => (decode_eq_ok_iff_encode hc).mp h

/-- Settles O3: with the default parameters JSR's byte has no entry; the other words are encodings (30_encoding.md R98,
R100). -/
theorem writtenWordsDecode : Obligations.WrittenWordsDecode := by
  have hdefault : Config.default.wf = true := by decide
  have hfull : Config.full.wf = true := by decide
  have encoded {c : Config} (hc : c.wf = true) {i : Instr} (hi : i.wf c = true) : decode c (encode c i) = .ok (i, []) :=
    (decode_eq_ok_iff_encode hc).mpr ⟨(List.append_nil _).symm, hi⟩
  exact ⟨encoded hdefault (i := .ldaImm 0x7F) rfl, encoded hdefault (i := .ldaAbsx 0x1234) rfl,
    encoded hdefault (i := .sbcIndy 0x40) rfl, encoded hdefault (i := .bne 0xFB) rfl,
    encoded hdefault (i := .cbl 0x1000 0x04) rfl, rfl, encoded hfull (i := .jsr 0x0700) rfl⟩

end Sys2Proof.Claim
end

section
/-! One step of the machine, from the bytes at PC to `exec` of what they decode to (30_encoding.md R92, 60_exceptions.md
R260, R267, R273). -/

namespace Sys2Proof.Machine

variable {s : State} {i : Instr} {rest : List Byte}

@[simp] theorem State.consultDebug_cfg (s : State) : s.consultDebug.cfg = s.cfg := (consultDebug_controlKept s).cfg

/-- The debug table leaves the bytes the instruction is fetched from (60_exceptions.md R261). -/
@[simp] theorem State.consultDebug_fetchBytes (s : State) : s.consultDebug.fetchBytes = s.fetchBytes := by
  unfold State.consultDebug
  split <;> rfl

theorem executeOne_of_decode (h : decode s.cfg s.fetchBytes = .ok (i, rest)) : executeOne s = exec i s := by
  rw [executeOne, h]

theorem executeOne_consultDebug_of_decode (h : decode s.cfg s.fetchBytes = .ok (i, rest)) :
    executeOne s.consultDebug = exec i s.consultDebug :=
  executeOne_of_decode (by rw [State.consultDebug_cfg, State.consultDebug_fetchBytes, h])

end Sys2Proof.Machine

namespace Sys2Proof.Claim

open Sys2Proof.Machine

/-- A step that takes no input is an action of the controller (60_exceptions.md R285). -/
theorem step_of_noInputTaken {s : State} (h : NoInputTaken s) : step s = controllerAction s := by
  unfold step controllerStep
  split
  next => rfl
  next j rest hinbox => rw [h j rest hinbox, if_neg Bool.false_ne_true]

/-- Inside an interval the controller's action is one step of it (60_exceptions.md R273). -/
theorem step_of_inInterval {s : State} {k : Nat} (h : InInterval s k) : step s = intervalStep k s := by
  obtain ⟨hinput, hrun, hsteps, hquota, -⟩ := h
  simp [step_of_noInputTaken hinput, controllerAction, hrun, hsteps, hquota]

/-- Inside the service loop the controller's action is one step of it (60_exceptions.md R267). -/
theorem step_of_inService {s : State} (h : InService s) : step s = serviceStep s := by
  obtain ⟨hinput, hrun, hmark, hbudget, -⟩ := h
  simp [step_of_noInputTaken hinput, controllerAction, hrun, hmark, hbudget]

/-- Settles O4: a step of either loop is one `Step()` of the spec, which emits the annotations and runs the instruction;
the loop adds its count (60_exceptions.md R260, R267, R273). -/
theorem stepRunsTheDecodedInstruction : Obligations.StepRunsTheDecodedInstruction := by
  intro s i rest hdecode
  have hexec := executeOne_consultDebug_of_decode hdecode
  refine ⟨fun k hin => ?interval, fun hin => ?service⟩
  all_goals have ⟨_, _, _, _, hsuspend⟩ := hin
  case' interval => rw [step_of_inInterval hin, intervalStep, instructionStep, hsuspend, hexec]
  case' service => rw [step_of_inService hin, serviceStep, instructionStep, hsuspend, hexec]
  all_goals
    cases exec i s.consultDebug with
    | next t => cases ht : t.isHalted <;> simp [ht]
    | fault e => rfl
    | refused r => rfl

end Sys2Proof.Claim
end

section
/-! The addressing forms (40_addressing.md): the address of each in integer arithmetic, where the queries are refused, and
the stops of all instructions that follow from it. -/

namespace Sys2Proof.Machine

variable {f : Form} {s : State} {r : Refusal}

/-! ### The zero-page pointer -/

/-- Where the high byte of the zero-page pointer at `p` stands: behind the low byte, or at 0xFF as ZP_PTR_WRAP says
(40_addressing.md R134). -/
def PointerHighAt (w : ZpPtrWrap) (p hi : Nat) : Prop :=
  hi = p + 1 ∧ p ≠ 255 ∨ p = 255 ∧ (hi = 0 ∧ w = .wrap ∨ hi = 256 ∧ w = .linear)

theorem zpPointer_ok {p : Byte} {hi : Nat} (h : PointerHighAt s.cfg.zpPtrWrap p.toNat hi) :
    zpPointer s p = .ok (wordOf (s.mem.read p.toNat) (s.mem.read hi)) := by
  obtain ⟨rfl, hp⟩ | ⟨hp, ⟨rfl, hw⟩ | ⟨rfl, hw⟩⟩ := h
  · have hne : p ≠ 0xFF := fun e => hp (e ▸ rfl)
    have hlo : (p.setWidth 16 : Word).toNat = p.toNat := by bv_omega
    have hhi : (p.setWidth 16 + 1 : Word).toNat = p.toNat + 1 := by bv_omega
    rw [zpPointer, if_neg hne, State.readByte, State.readByte, hlo, hhi]
  all_goals
    obtain rfl : p = 0xFF := BitVec.eq_of_toNat_eq hp
    rw [zpPointer, if_pos rfl, hw]
    rfl

theorem zpPointer_eq_error_iff {p : Byte} :
    zpPointer s p = .error r ↔ r = .zeroPagePointerAtFF ∧ s.cfg.zpPtrWrap = .refuse ∧ p = 0xFF := by
  constructor
  · intro h
    obtain ⟨a, ha⟩ | ⟨he, hp, hw⟩ := zpPointer_cases s p
    · cases ha.symm.trans h
    · cases he.symm.trans h
      exact ⟨rfl, hw, hp⟩
  · rintro ⟨rfl, hw, rfl⟩
    rw [zpPointer, if_pos rfl, hw]

/-! ### The address query and the value query -/

theorem setWidth_add_toNat (z i : Byte) : ((z + i).setWidth 16 : Word).toNat = (z.toNat + i.toNat) % 256 := by bv_omega

theorem add_setWidth_toNat (a : Word) (i : Byte) : (a + i.setWidth 16).toNat = (a.toNat + i.toNat) % 65536 := by bv_omega

theorem formAddress_indy_ok {z : Byte} {base : Word} (h : zpPointer s z = .ok base) :
    formAddress (.indy z) s = .ok (base + s.y.setWidth 16) := by
  rw [formAddress, h]

/-- The zero-page address of the pointer that a form reads (40_addressing.md R128, R129). -/
def formPointer (f : Form) (s : State) : Option Byte :=
  match f with
  | .indx z => some (z + s.x)
  | .indy z => some z
  | _ => none

/-- The refusal of a pointer, if there is one, at 0xFF (40_addressing.md R134). -/
def RefusesPointer (s : State) (pointer : Option Byte) (r : Refusal) : Prop :=
  r = .zeroPagePointerAtFF ∧ s.cfg.zpPtrWrap = .refuse ∧ pointer = some 0xFF

theorem not_refusesPointer_none : ¬ RefusesPointer s none r := fun ⟨_, _, h⟩ => nomatch h

theorem refusesPointer_some_iff {p : Byte} : RefusesPointer s (some p) r ↔ zpPointer s p = .error r := by
  rw [RefusesPointer, Option.some_inj, zpPointer_eq_error_iff]

theorem formAddress_eq_error_iff : formAddress f s = .error r ↔ RefusesPointer s (formPointer f s) r := by
  cases f with
  | indx z => exact refusesPointer_some_iff.symm
  | indy z =>
    rw [formPointer, refusesPointer_some_iff, formAddress]
    cases zpPointer s z <;> simp
  | _ => exact iff_of_false nofun not_refusesPointer_none

theorem formValue_eq_error_iff : formValue f s = .error r ↔ formAddress f s = .error r := by
  cases f with
  | indx z => cases h : formAddress (.indx z) s <;> simp [formValue, h]
  | indy z => cases h : formAddress (.indy z) s <;> simp [formValue, h]
  | _ => exact iff_of_false nofun nofun

/-! ### Where an outcome stops -/

/-- The outcome is no fault, and it is a refusal for exactly the reasons of `why`. -/
structure StopsExactly (o : Result) (why : Refusal → Prop) : Prop where
  noFault : ∀ e, o ≠ .fault e
  refused_iff : ∀ r, o = .refused r ↔ why r

theorem StopsExactly.congr {o : Result} {why why' : Refusal → Prop} (h : StopsExactly o why)
    (hw : ∀ r, why r ↔ why' r) : StopsExactly o why' :=
  ⟨h.noFault, fun r => (h.refused_iff r).trans (hw r)⟩

theorem next_stopsExactly (t : State) : StopsExactly (.next t) (fun _ => False) :=
  ⟨nofun, fun _ => iff_of_false nofun id⟩

theorem withValue_stopsExactly (f : Form) (s : State) (act : Byte → State → State) :
    StopsExactly (withValue f s act) (RefusesPointer s (formPointer f s)) := by
  have hwhy (r : Refusal) : formValue f s = .error r ↔ RefusesPointer s (formPointer f s) r :=
    formValue_eq_error_iff.trans formAddress_eq_error_iff
  unfold withValue
  cases hv : formValue f s with
  | ok v => exact (next_stopsExactly _).congr fun r => by simp [← hwhy, hv]
  | error e => exact ⟨nofun, fun r => by simp [← hwhy, hv]⟩

theorem withAddress_stopsExactly (f : Form) (s : State) (act : Word → State → State) :
    StopsExactly (withAddress f s act) (RefusesPointer s (formPointer f s)) := by
  unfold withAddress
  cases ha : formAddress f s with
  | ok ea => exact (next_stopsExactly _).congr fun r => by simp [← formAddress_eq_error_iff, ha]
  | error e => exact ⟨nofun, fun r => by simp [← formAddress_eq_error_iff, ha]⟩

theorem withValue_refused {act : Byte → State → State} (h : formAddress f s = .error r) :
    withValue f s act = .refused r :=
  ((withValue_stopsExactly f s act).refused_iff r).mpr (formAddress_eq_error_iff.mp h)

theorem withAddress_refused {act : Word → State → State} (h : formAddress f s = .error r) :
    withAddress f s act = .refused r :=
  ((withAddress_stopsExactly f s act).refused_iff r).mpr (formAddress_eq_error_iff.mp h)

/-- The refusals of a copy of `n` bytes between two blocks at `a` and `b` (49_system_custom.md R240). -/
def RefusesBlock (c : Config) (a b : Word) (n : Nat) (r : Refusal) : Prop :=
  (r = .blockLongerThanCache ∧ c.cacheSize < n) ∨
    (r = .blockPastEnd ∧ n ≤ c.cacheSize ∧ (65536 < a.toNat + n ∨ 65536 < b.toNat + n))

theorem refusesBlock_comm {c : Config} {a b : Word} {n : Nat} : RefusesBlock c a b n r ↔ RefusesBlock c b a n r := by
  rw [RefusesBlock, RefusesBlock, or_comm (a := 65536 < a.toNat + n)]

theorem blockCopy_stopsExactly (src dst : Word) (n : Nat) (s : State) :
    StopsExactly (blockCopy src dst n s) (RefusesBlock s.cfg src dst n) := by
  unfold blockCopy
  split
  next hlong =>
    have hfit : ¬ n ≤ s.cfg.cacheSize := by omega
    exact ⟨nofun, fun r => by simp [RefusesBlock, hlong, hfit, eq_comm]⟩
  next hfit =>
    have hle : n ≤ s.cfg.cacheSize := by omega
    split
    next hend => exact ⟨nofun, fun r => by simp [RefusesBlock, hfit, hle, hend, eq_comm]⟩
    next hend => exact (next_stopsExactly _).congr fun r => by simp [RefusesBlock, hfit, hend]

end Sys2Proof.Machine

namespace Sys2Proof.Claim

open Sys2Proof.Machine

variable {f : Form} {op : Byte} {i : Instr} {s : State}

/-! ### Every instruction's stops -/

/-- The refuse points of an instruction: the pointer of its indirect form, the block of CBL and CBS
(40_addressing.md R134, 49_system_custom.md R240). -/
def RefusePoint (s : State) (i : Instr) (r : Refusal) : Prop :=
  RefusesPointer s (indirectPointer s i) r ∨
    ∃ a len, (i = .cbl a len ∨ i = .cbs a len) ∧ RefusesBlock s.cfg a s.cfg.cacheStart len.toNat r

/-- The two instructions that copy a block (49_system_custom.md R238, R239). -/
def copiesBlock : Instr → Bool
  | .cbl _ _ => true
  | .cbs _ _ => true
  | _ => false

/-- An instruction that copies no block is refused at its pointer only. -/
theorem refusePoint_iff_refusesPointer {r : Refusal} (hcopy : copiesBlock i = false) :
    RefusePoint s i r ↔ RefusesPointer s (indirectPointer s i) r := by
  refine or_iff_left ?_
  rintro ⟨a, len, rfl | rfl, -⟩
  · cases hcopy
  · cases hcopy

theorem stopsExactly_of_withValue {o : Result} {act : Byte → State → State} (ho : o = withValue f s act)
    (hpointer : indirectPointer s i = formPointer f s) (hcopy : copiesBlock i = false) :
    StopsExactly o (RefusePoint s i) :=
  ho ▸ (withValue_stopsExactly f s act).congr fun _ => by rw [refusePoint_iff_refusesPointer hcopy, hpointer]

theorem stopsExactly_of_withAddress {o : Result} {act : Word → State → State} (ho : o = withAddress f s act)
    (hpointer : indirectPointer s i = formPointer f s) (hcopy : copiesBlock i = false) :
    StopsExactly o (RefusePoint s i) :=
  ho ▸ (withAddress_stopsExactly f s act).congr fun _ => by rw [refusePoint_iff_refusesPointer hcopy, hpointer]

theorem stopsExactly_of_next {t : State} (hpointer : indirectPointer s i = none) (hcopy : copiesBlock i = false) :
    StopsExactly (.next t) (RefusePoint s i) :=
  (next_stopsExactly t).congr fun _ => by
    rw [refusePoint_iff_refusesPointer hcopy, hpointer]
    exact iff_of_false id not_refusesPointer_none

theorem refusePoint_cbl {a : Word} {len : Byte} {r : Refusal} :
    RefusePoint s (.cbl a len) r ↔ RefusesBlock s.cfg a s.cfg.cacheStart len.toNat r := by
  simp [RefusePoint, indirectPointer, not_refusesPointer_none]

theorem refusePoint_cbs {a : Word} {len : Byte} {r : Refusal} :
    RefusePoint s (.cbs a len) r ↔ RefusesBlock s.cfg a s.cfg.cacheStart len.toNat r := by
  simp [RefusePoint, indirectPointer, not_refusesPointer_none]

/-- Every instruction is one query or one block copy, and stops where that does, or always answers a next state. -/
theorem exec_stopsExactly (i : Instr) (s : State) : StopsExactly (exec i s) (RefusePoint s i) := by
  unfold exec
  cases i with
  -- the value query
  | ldaImm | ldaZp | ldaZpx | ldaAbs | ldaAbsx | ldaAbsy | ldaIndx | ldaIndy =>
    exact stopsExactly_of_withValue (o := loadA _ s) rfl rfl rfl
  | ldxImm | ldxZp | ldxZpy | ldxAbs | ldxAbsy =>
    exact stopsExactly_of_withValue (o := loadX _ s) rfl rfl rfl
  | ldyImm | ldyZp | ldyZpx | ldyAbs | ldyAbsx =>
    exact stopsExactly_of_withValue (o := loadY _ s) rfl rfl rfl
  | cmpImm | cmpZp | cmpZpx | cmpAbs | cmpAbsx | cmpAbsy | cmpIndx | cmpIndy =>
    exact stopsExactly_of_withValue (o := compareA _ s) rfl rfl rfl
  | cpxImm | cpxZp | cpxAbs =>
    exact stopsExactly_of_withValue (o := compareX _ s) rfl rfl rfl
  | cpyImm | cpyZp | cpyAbs =>
    exact stopsExactly_of_withValue (o := compareY _ s) rfl rfl rfl
  | adcImm | adcZp | adcZpx | adcAbs | adcAbsx | adcAbsy | adcIndx | adcIndy =>
    exact stopsExactly_of_withValue (o := addA _ s) rfl rfl rfl
  | sbcImm | sbcZp | sbcZpx | sbcAbs | sbcAbsx | sbcAbsy | sbcIndx | sbcIndy =>
    exact stopsExactly_of_withValue (o := subtractA _ s) rfl rfl rfl
  | bitZp | bitAbs =>
    exact stopsExactly_of_withValue (o := bitTest _ s) rfl rfl rfl
  | andImm | andZp | andZpx | andAbs | andAbsx | andAbsy | andIndx | andIndy =>
    exact stopsExactly_of_withValue (o := andA _ s) rfl rfl rfl
  | oraImm | oraZp | oraZpx | oraAbs | oraAbsx | oraAbsy | oraIndx | oraIndy =>
    exact stopsExactly_of_withValue (o := orA _ s) rfl rfl rfl
  | eorImm | eorZp | eorZpx | eorAbs | eorAbsx | eorAbsy | eorIndx | eorIndy =>
    exact stopsExactly_of_withValue (o := xorA _ s) rfl rfl rfl
  -- the address query
  | staZp | staZpx | staAbs | staAbsx | staAbsy | staIndx | staIndy =>
    exact stopsExactly_of_withAddress (o := storeA _ s) rfl rfl rfl
  | stxZp | stxZpy | stxAbs =>
    exact stopsExactly_of_withAddress (o := storeX _ s) rfl rfl rfl
  | styZp | styZpx | styAbs =>
    exact stopsExactly_of_withAddress (o := storeY _ s) rfl rfl rfl
  | aslZp | aslZpx | aslAbs | aslAbsx | lsrZp | lsrZpx | lsrAbs | lsrAbsx
  | rolZp | rolZpx | rolAbs | rolAbsx | rorZp | rorZpx | rorAbs | rorAbsx =>
    exact stopsExactly_of_withAddress (o := shiftMem _ _ s) rfl rfl rfl
  | incZp | incZpx | incAbs | incAbsx =>
    exact stopsExactly_of_withAddress (o := incrementMem _ s) rfl rfl rfl
  | decZp | decZpx | decAbs | decAbsx =>
    exact stopsExactly_of_withAddress (o := decrementMem _ s) rfl rfl rfl
  -- the block copies
  | cbl a len =>
    exact (blockCopy_stopsExactly a s.cfg.cacheStart len.toNat (s.advance 4)).congr fun _ => refusePoint_cbl.symm
  | cbs a len =>
    exact (blockCopy_stopsExactly s.cfg.cacheStart a len.toNat (s.advance 4)).congr fun _ =>
      refusesBlock_comm.trans refusePoint_cbs.symm
  -- no memory operand, or a branch, a jump or the stack
  | _ => exact stopsExactly_of_next rfl rfl

/-! ### The instruction of a form runs its family's operation on that form -/

theorem exec_of_ldaForms (h : ldaForms f = some (op, i)) : exec i s = loadA f s := by
  cases f with
  | zpy => cases h
  | _ => cases h; rfl

theorem exec_of_staForms (h : staForms f = some (op, i)) : exec i s = storeA f s := by
  cases f with
  | imm | zpy => cases h
  | _ => cases h; rfl

theorem exec_of_cmpForms (h : cmpForms f = some (op, i)) : exec i s = compareA f s := by
  cases f with
  | zpy => cases h
  | _ => cases h; rfl

theorem exec_of_adcForms (h : adcForms f = some (op, i)) : exec i s = addA f s := by
  cases f with
  | zpy => cases h
  | _ => cases h; rfl

theorem exec_of_sbcForms (h : sbcForms f = some (op, i)) : exec i s = subtractA f s := by
  cases f with
  | zpy => cases h
  | _ => cases h; rfl

theorem exec_of_andForms (h : andForms f = some (op, i)) : exec i s = andA f s := by
  cases f with
  | zpy => cases h
  | _ => cases h; rfl

theorem exec_of_oraForms (h : oraForms f = some (op, i)) : exec i s = orA f s := by
  cases f with
  | zpy => cases h
  | _ => cases h; rfl

theorem exec_of_eorForms (h : eorForms f = some (op, i)) : exec i s = xorA f s := by
  cases f with
  | zpy => cases h
  | _ => cases h; rfl

end Sys2Proof.Claim
end

section
/-! The statements about the addressing forms. -/

namespace Sys2Proof.Claim

open Sys2Proof.Machine

/-- Settles O13: the sums of the direct forms in integer arithmetic, and the zero-page pointer by its two bytes
(40_addressing.md R121 to R129, R134). -/
theorem effectiveAddresses : Obligations.EffectiveAddresses := by
  intro s z _ a
  refine ⟨⟨_, rfl, ?imm⟩, ⟨_, rfl, ?zp⟩, ⟨_, rfl, setWidth_add_toNat z s.x⟩, ⟨_, rfl, setWidth_add_toNat z s.y⟩,
    ⟨_, rfl, rfl⟩, ⟨_, rfl, add_setWidth_toNat a s.x⟩, ⟨_, rfl, add_setWidth_toNat a s.y⟩, ?indx, ?indy, ?refuse⟩
  case imm => exact BitVec.toNat_add s.pc 1
  case zp => exact BitVec.toNat_setWidth_of_le (by decide)
  case indx =>
    rintro p hi rfl hhi
    rw [← BitVec.toNat_add] at hhi ⊢
    exact ⟨_, zpPointer_ok hhi, wordOf_toNat _ _⟩
  case indy =>
    intro hi hhi
    refine ⟨_, formAddress_indy_ok (zpPointer_ok hhi), ?_⟩
    rw [add_setWidth_toNat, wordOf_toNat]
  case refuse =>
    intro hw
    have hFF {p : Byte} (hp : p.toNat = 255) : RefusesPointer s (some p) .zeroPagePointerAtFF :=
      ⟨rfl, hw, congrArg some (BitVec.eq_of_toNat_eq hp)⟩
    exact ⟨fun hp => formAddress_eq_error_iff.mpr (hFF ((BitVec.toNat_add z s.x).trans hp)),
      fun hp => formAddress_eq_error_iff.mpr (hFF hp)⟩

/-- Settles O14: the value query of IMM, of an address, and of a refused address (40_addressing.md R120, R121, R135). -/
theorem operandValues : Obligations.OperandValues := by
  intro s f
  refine ⟨?imm, fun w => formValue_of_address f s w, fun r => formValue_eq_error_iff.mpr⟩
  case imm =>
    rintro v rfl
    exact formValue_imm v s

/-- Settles O17: each of the eight runs one query on its form, which is refused where the address is
(40_addressing.md R134). -/
theorem pointerRefusalRefusesTheInstruction : Obligations.PointerRefusalRefusesTheInstruction := by
  intro s f op i r hr hform
  obtain h | h | h | h | h | h | h | h := hform
  · exact (exec_of_ldaForms h).trans (withValue_refused hr)
  · exact (exec_of_staForms h).trans (withAddress_refused hr)
  · exact (exec_of_cmpForms h).trans (withValue_refused hr)
  · exact (exec_of_adcForms h).trans (withValue_refused hr)
  · exact (exec_of_sbcForms h).trans (withValue_refused hr)
  · exact (exec_of_andForms h).trans (withValue_refused hr)
  · exact (exec_of_oraForms h).trans (withValue_refused hr)
  · exact (exec_of_eorForms h).trans (withValue_refused hr)

/-- Settles O46: the obligation's right side is the instruction's `RefusePoint`, written out. -/
theorem instructionsStopOnlyAtRefusePoints : Obligations.InstructionsStopOnlyAtRefusePoints :=
  fun i s => ⟨(exec_stopsExactly i s).noFault, (exec_stopsExactly i s).refused_iff⟩

end Sys2Proof.Claim
end

section
/-! Loads and stores (41_load_store.md): the form of an instruction gives its opcode byte, its length and the query it
runs, and what the query's value or address is used for is all that changes. -/

namespace Sys2Proof.Claim

open Sys2Proof.Machine

variable {f : Form} {op : Byte} {i : Instr} {s : State}

/-! ### The instruction of a form -/

/-- `i` is the instruction of the form `f` with the opcode byte `op` and the meaning `run`, and as long as the form
(30_encoding.md R98, R103). -/
structure IsFormInstr (f : Form) (op : Byte) (i : Instr) (run : State → Result) : Prop where
  opcode : ∀ c, (encode c i).head? = some op
  length : i.length = formLength f
  exec : ∀ s, exec i s = run s

theorem isFormInstr_of_ldaForms (h : ldaForms f = some (op, i)) : IsFormInstr f op i (loadA f) := by
  have hexec (s : State) : exec i s = loadA f s := exec_of_ldaForms h
  cases f with
  | zpy => cases h
  | _ => cases h; exact ⟨fun _ => rfl, rfl, hexec⟩

theorem isFormInstr_of_ldxForms (h : ldxForms f = some (op, i)) : IsFormInstr f op i (loadX f) := by
  cases f with
  | zpx | absx | indx | indy => cases h
  | _ => cases h; exact ⟨fun _ => rfl, rfl, fun _ => rfl⟩

theorem isFormInstr_of_ldyForms (h : ldyForms f = some (op, i)) : IsFormInstr f op i (loadY f) := by
  cases f with
  | zpy | absy | indx | indy => cases h
  | _ => cases h; exact ⟨fun _ => rfl, rfl, fun _ => rfl⟩

theorem isFormInstr_of_staForms (h : staForms f = some (op, i)) : IsFormInstr f op i (storeA f) := by
  have hexec (s : State) : exec i s = storeA f s := exec_of_staForms h
  cases f with
  | imm | zpy => cases h
  | _ => cases h; exact ⟨fun _ => rfl, rfl, hexec⟩

theorem isFormInstr_of_stxForms (h : stxForms f = some (op, i)) : IsFormInstr f op i (storeX f) := by
  cases f with
  | zp | zpy | abs => cases h; exact ⟨fun _ => rfl, rfl, fun _ => rfl⟩
  | _ => cases h

theorem isFormInstr_of_styForms (h : styForms f = some (op, i)) : IsFormInstr f op i (storeY f) := by
  cases f with
  | zp | zpx | abs => cases h; exact ⟨fun _ => rfl, rfl, fun _ => rfl⟩
  | _ => cases h

/-! ### The run of a value query and of an address query (40_addressing.md R120, R136) -/

theorem IsFormInstr.runs_of_value {v : Byte} {act : Byte → State → State} {q : State → Prop}
    (hi : IsFormInstr f op i (withValue f · act)) (hv : formValue f s = .ok v) (hq : q (act v (s.advance i.length))) :
    Runs op i s q := by
  rw [hi.length] at hq
  exact ⟨hi.opcode s.cfg, _, (hi.exec s).trans (withValue_ok act hv), hq⟩

theorem IsFormInstr.runs_of_address {ea : Word} {act : Word → State → State} {q : State → Prop}
    (hi : IsFormInstr f op i (withAddress f · act)) (ha : formAddress f s = .ok ea)
    (hq : q (act ea (s.advance i.length))) : Runs op i s q := by
  rw [hi.length] at hq
  exact ⟨hi.opcode s.cfg, _, (hi.exec s).trans (withAddress_ok act ha), hq⟩

/-! ### What a load and a store leave -/

theorem writesA_setA (i : Instr) (v : Byte) (s : State) : WritesA i v (nz v) s ((s.advance i.length).setA v) :=
  ⟨rfl, flagsWritten_of_putNZ (State.setA_p _ v)⟩

theorem writesX_setX (i : Instr) (v : Byte) (s : State) : WritesX i v (nz v) s ((s.advance i.length).setX v) :=
  ⟨rfl, flagsWritten_of_putNZ (State.setX_p _ v)⟩

theorem writesY_setY (i : Instr) (v : Byte) (s : State) : WritesY i v (nz v) s ((s.advance i.length).setY v) :=
  ⟨rfl, flagsWritten_of_putNZ (State.setY_p _ v)⟩

theorem onlyByte_writeByte (ea : Word) (v : Byte) (hm : Memory.wf s.mem = true) : OnlyByte ea v s (s.writeByte ea v) :=
  ⟨readByte_writeByte_same s ea v hm, fun b => readByte_writeByte_other s ea b v⟩

theorem storesByte_writeByte (i : Instr) (ea : Word) (v : Byte) (hm : Memory.wf s.mem = true) :
    StoresByte i ea v [] s ((s.advance i.length).writeByte ea v) :=
  ⟨rfl, onlyByte_writeByte (s := s.advance i.length) ea v hm, fun _ => rfl⟩

/-! ### The statements -/

/-- Settles O15: each load is the value query followed by the setter of its register (41_load_store.md R140 to R142). -/
theorem loadsWriteTheRegister : Obligations.LoadsWriteTheRegister := by
  intro s f v op i hv
  refine ⟨fun h => ?lda, fun h => ?ldx, fun h => ?ldy⟩
  case lda => exact (isFormInstr_of_ldaForms h).runs_of_value hv (writesA_setA i v s)
  case ldx => exact (isFormInstr_of_ldxForms h).runs_of_value hv (writesX_setX i v s)
  case ldy => exact (isFormInstr_of_ldyForms h).runs_of_value hv (writesY_setY i v s)

/-- Settles O16: each store is the address query followed by one byte written there (41_load_store.md R143 to R145). -/
theorem storesWriteOneByte : Obligations.StoresWriteOneByte := by
  intro s f ea op i hm ha
  refine ⟨fun h => ?sta, fun h => ?stx, fun h => ?sty⟩
  case sta => exact (isFormInstr_of_staForms h).runs_of_address ha (storesByte_writeByte i ea s.a hm)
  case stx => exact (isFormInstr_of_stxForms h).runs_of_address ha (storesByte_writeByte i ea s.x hm)
  case sty => exact (isFormInstr_of_styForms h).runs_of_address ha (storesByte_writeByte i ea s.y hm)

end Sys2Proof.Claim
end

section
/-! Writing a flag: how it commutes with the other writes of the state, and what does not see it (10_state.md R30 to R39,
40_addressing.md R120). -/

namespace Sys2Proof.Machine

/-! ### Writes of P -/

@[simp] theorem putFlag_putFlag_same (f : Flag) (d e : Bool) (p : Byte) : putFlag f e (putFlag f d p) = putFlag f e p := by
  refine eq_of_getFlag _ _ fun g => ?_
  simp only [getFlag_putFlag]
  split <;> rfl

theorem putFlag_comm {f g : Flag} (h : g ≠ f) (d e : Bool) (p : Byte) :
    putFlag g e (putFlag f d p) = putFlag f d (putFlag g e p) := by
  refine eq_of_getFlag _ _ fun k => ?_
  simp only [getFlag_putFlag]
  by_cases hk : k = g
  · simp [hk, h]
  · simp [hk]

theorem putNZ_putFlag {g : Flag} (hn : g ≠ .n) (hz : g ≠ .z) (e : Bool) (v p : Byte) :
    putNZ v (putFlag g e p) = putFlag g e (putNZ v p) := by
  rw [putNZ, putFlag_comm hz.symm, putFlag_comm hn.symm, putNZ]

/-! ### Writes of a flag of the state -/

namespace State

variable (s : State) {f g : Flag} (d e : Bool)

theorem advance_setFlag (n : Nat) : (s.setFlag g e).advance n = (s.advance n).setFlag g e := rfl

@[simp] theorem setFlag_setFlag_same : (s.setFlag g d).setFlag g e = s.setFlag g e := by
  simp [setFlag]

theorem setFlag_comm (h : g ≠ f) : (s.setFlag f d).setFlag g e = (s.setFlag g e).setFlag f d := by
  simp [setFlag, putFlag_comm h]

/-- `SetA` commutes with every flag but the two it writes (00_scope.md R11). -/
theorem setA_setFlag (hn : g ≠ .n) (hz : g ≠ .z) (v : Byte) : (s.setFlag g e).setA v = (s.setA v).setFlag g e := by
  simp [setFlag, setA, putNZ_putFlag hn hz]

theorem setFlag_flag_other (h : f ≠ g) : (s.setFlag g e).flag f = s.flag f := getFlag_putFlag_other e s.p h

end State

/-! ### The queries read no flag -/

section Queries

variable (f : Form) (s : State) (g : Flag) (e : Bool)

@[simp] theorem formValue_setFlag : formValue f (s.setFlag g e) = formValue f s := rfl

@[simp] theorem formAddress_setFlag : formAddress f (s.setFlag g e) = formAddress f s := rfl

/-- An instruction whose action overwrites a flag unread does not see it. -/
theorem withValue_setFlag_of_unread {act : Byte → State → State} (hact : ∀ v t, act v (t.setFlag g e) = act v t) :
    withValue f (s.setFlag g e) act = withValue f s act := by
  simp only [withValue, formValue_setFlag, State.advance_setFlag, hact]

theorem withAddress_setFlag_of_unread {act : Word → State → State} (hact : ∀ ea t, act ea (t.setFlag g e) = act ea t) :
    withAddress f (s.setFlag g e) act = withAddress f s act := by
  simp only [withAddress, formAddress_setFlag, State.advance_setFlag, hact]

end Queries

/-! ### ADC, the shifts and the rotates write Carry unread (42_arithmetic_compare.md R153, 43_shift_rotate.md R160 to R164) -/

section Carry

variable (op : Byte → Shifted) (f : Form) (s : State) (e : Bool)

theorem addA_setFlag_carry : addA f (s.setFlag .c e) = addA f s :=
  withValue_setFlag_of_unread f s .c e fun v t => by simp only [State.setFlag_setFlag_same, State.setFlag_a]

theorem shiftMem_setFlag_carry : shiftMem op f (s.setFlag .c e) = shiftMem op f s :=
  withAddress_setFlag_of_unread f s .c e fun ea t => by simp only [State.setFlag_setFlag_same, State.setFlag_readByte]

theorem shiftAcc_setFlag_carry : shiftAcc op (s.setFlag .c e) = shiftAcc op s := by
  simp only [shiftAcc, State.advance_setFlag, State.setFlag_setFlag_same, State.setFlag_a]

end Carry

/-! ### The difference of SBC in integer arithmetic (42_arithmetic_compare.md R154, R156) -/

theorem sbcDiff_eq (a v : Byte) (carry : Bool) :
    sbcDiff a v carry = (a.toNat : Int) - v.toNat - (1 - (if carry then 1 else 0)) := by
  cases carry <;> rfl

theorem sbcByte_toNat (a v : Byte) (carry : Bool) : ((sbcByte a v carry).toNat : Int) = sbcDiff a v carry % 256 := by
  rw [sbcByte, BitVec.toNat_ofInt]
  omega

end Sys2Proof.Machine
end

section
/-! Arithmetic and compare (42_arithmetic_compare.md), and the Carry that ADC, the shifts and the rotates do not read. -/

namespace Sys2Proof.Claim

open Sys2Proof.Machine

variable {f : Form} {op : Byte} {i : Instr} {s t : State}

/-! ### The instruction of a form -/

theorem isFormInstr_of_cmpForms (h : cmpForms f = some (op, i)) : IsFormInstr f op i (compareA f) := by
  have hexec (s : State) : exec i s = compareA f s := exec_of_cmpForms h
  cases f with
  | zpy => cases h
  | _ => cases h; exact ⟨fun _ => rfl, rfl, hexec⟩

theorem isFormInstr_of_cpxForms (h : cpxForms f = some (op, i)) : IsFormInstr f op i (compareX f) := by
  cases f with
  | imm | zp | abs => cases h; exact ⟨fun _ => rfl, rfl, fun _ => rfl⟩
  | _ => cases h

theorem isFormInstr_of_cpyForms (h : cpyForms f = some (op, i)) : IsFormInstr f op i (compareY f) := by
  cases f with
  | imm | zp | abs => cases h; exact ⟨fun _ => rfl, rfl, fun _ => rfl⟩
  | _ => cases h

theorem isFormInstr_of_adcForms (h : adcForms f = some (op, i)) : IsFormInstr f op i (addA f) := by
  have hexec (s : State) : exec i s = addA f s := exec_of_adcForms h
  cases f with
  | zpy => cases h
  | _ => cases h; exact ⟨fun _ => rfl, rfl, hexec⟩

theorem isFormInstr_of_sbcForms (h : sbcForms f = some (op, i)) : IsFormInstr f op i (subtractA f) := by
  have hexec (s : State) : exec i s = subtractA f s := exec_of_sbcForms h
  cases f with
  | zpy => cases h
  | _ => cases h; exact ⟨fun _ => rfl, rfl, hexec⟩

theorem isFormInstr_of_aslForms (h : aslForms f = some (op, i)) : IsFormInstr f op i (shiftMem aslOp f) := by
  cases f with
  | zp | zpx | abs | absx => cases h; exact ⟨fun _ => rfl, rfl, fun _ => rfl⟩
  | _ => cases h

theorem isFormInstr_of_lsrForms (h : lsrForms f = some (op, i)) : IsFormInstr f op i (shiftMem lsrOp f) := by
  cases f with
  | zp | zpx | abs | absx => cases h; exact ⟨fun _ => rfl, rfl, fun _ => rfl⟩
  | _ => cases h

theorem isFormInstr_of_rolForms (h : rolForms f = some (op, i)) : IsFormInstr f op i (shiftMem rolOp f) := by
  cases f with
  | zp | zpx | abs | absx => cases h; exact ⟨fun _ => rfl, rfl, fun _ => rfl⟩
  | _ => cases h

theorem isFormInstr_of_rorForms (h : rorForms f = some (op, i)) : IsFormInstr f op i (shiftMem rorOp f) := by
  cases f with
  | zp | zpx | abs | absx => cases h; exact ⟨fun _ => rfl, rfl, fun _ => rfl⟩
  | _ => cases h

/-- What the operation of a form does alike in two states, its instruction does alike. -/
theorem IsFormInstr.exec_congr {run : State → Result} (hi : IsFormInstr f op i run) (h : run s = run t) :
    Machine.exec i s = Machine.exec i t :=
  (hi.exec s).trans (h.trans (hi.exec t).symm)

/-! ### What a compare leaves, and what a flag written beside A adds -/

/-- The writes of `Compare` (42_arithmetic_compare.md R155). -/
theorem flagsWritten_of_compareFlags {r m : Byte} (h : t.p = compareFlags r m s.p) :
    FlagsWritten [(.c, decide (m.toNat ≤ r.toNat)), (.z, r == m), (.n, (r - m).getLsbD 7)] s t := by
  intro g
  rw [State.flag, h, getFlag_compareFlags]
  cases g <;> rfl

theorem onlyFlags_compare (i : Instr) (r m : Byte) (s : State) :
    OnlyFlags i [(.c, decide (m.toNat ≤ r.toNat)), (.z, r == m), (.n, (r - m).getLsbD 7)] s
      ((s.advance i.length).setP (compareFlags r m s.p)) :=
  ⟨rfl, flagsWritten_of_compareFlags rfl⟩

theorem FlagsWritten.setFlag {w : List (Flag × Bool)} (h : FlagsWritten w s t) (g : Flag) (e : Bool) :
    FlagsWritten ((g, e) :: w) s (t.setFlag g e) := by
  intro k
  by_cases hk : k = g
  · simp [State.flag, hk]
  · rw [State.setFlag_flag_other t e hk, h k, List.lookup_cons, beq_false_of_ne hk]

theorem WritesA.setFlag {v : Byte} {w : List (Flag × Bool)} (h : WritesA i v w s t) (g : Flag) (e : Bool) :
    WritesA i v ((g, e) :: w) s (t.setFlag g e) := by
  obtain ⟨ht, hw⟩ := h
  exact ⟨congrArg (State.setFlag · g e) ht, hw.setFlag g e⟩

/-- ADC writes Carry before `SetA`, which leaves it alone (42_arithmetic_compare.md R153). -/
theorem writesA_adc (i : Instr) (v : Byte) (c : Bool) (s : State) :
    WritesA i v ((.c, c) :: nz v) s (((s.advance i.length).setFlag .c c).setA v) := by
  rw [State.setA_setFlag _ _ (by decide) (by decide)]
  exact (writesA_setA i v s).setFlag .c c

/-- SBC writes Carry and Overflow before `SetA`, which leaves them alone (42_arithmetic_compare.md R154). -/
theorem writesA_sbc (i : Instr) (v : Byte) (c o : Bool) (s : State) :
    WritesA i v ((.c, c) :: (.v, o) :: nz v) s ((((s.advance i.length).setFlag .c c).setFlag .v o).setA v) := by
  rw [State.setFlag_comm _ _ _ (by decide), State.setA_setFlag _ _ (by decide) (by decide),
    State.setA_setFlag _ _ (by decide) (by decide)]
  exact ((writesA_setA i v s).setFlag .v o).setFlag .c c

/-! ### Decimal passes through (42_arithmetic_compare.md R157) -/

/-- An instruction whose action keeps a written Decimal in place answers the same but for it, stops included. -/
theorem sameButDecimal_withValue {act : Byte → State → State} (e : Bool)
    (hact : ∀ v t, act v (t.setFlag .d e) = (act v t).setFlag .d e) :
    SameButDecimal e (withValue f s act) (withValue f (s.setFlag .d e) act) := by
  simp only [withValue, formValue_setFlag]
  cases formValue f s with
  | ok v => exact hact v (s.advance (formLength f))
  | error r => rfl

theorem sameButDecimal_addA (f : Form) (s : State) (e : Bool) :
    SameButDecimal e (addA f s) (addA f (s.setFlag .d e)) :=
  sameButDecimal_withValue e fun v t => by
    rw [State.setFlag_a, State.setFlag_comm t e _ (by decide), State.setA_setFlag _ _ (by decide) (by decide)]

theorem sameButDecimal_subtractA (f : Form) (s : State) (e : Bool) :
    SameButDecimal e (subtractA f s) (subtractA f (s.setFlag .d e)) :=
  sameButDecimal_withValue e fun v t => by
    rw [State.setFlag_a, State.setFlag_flag_other t e (by decide), State.setFlag_comm t e _ (by decide),
      State.setFlag_comm _ e _ (by decide), State.setA_setFlag _ _ (by decide) (by decide)]

/-! ### The statements -/

/-- Settles O18: each compare is the value query followed by `Compare` on P (42_arithmetic_compare.md R150 to R152,
R155). -/
theorem comparesWriteThreeFlags : Obligations.ComparesWriteThreeFlags := by
  intro s f m op i hm
  refine ⟨fun h => ?cmp, fun h => ?cpx, fun h => ?cpy⟩
  case cmp => exact (isFormInstr_of_cmpForms h).runs_of_value hm (onlyFlags_compare i s.a m s)
  case cpx => exact (isFormInstr_of_cpxForms h).runs_of_value hm (onlyFlags_compare i s.x m s)
  case cpy => exact (isFormInstr_of_cpyForms h).runs_of_value hm (onlyFlags_compare i s.y m s)

/-- Settles O19: A takes the exact sum narrowed, with Carry written before (42_arithmetic_compare.md R153, R156). -/
theorem adcAddsWithoutCarryIn : Obligations.AdcAddsWithoutCarryIn := by
  intro s f v op i hv h
  have hsum : (BitVec.ofNat 8 (adcSum s.a v)).toNat = (s.a.toNat + v.toNat) % 256 := BitVec.toNat_ofNat _ _
  exact (isFormInstr_of_adcForms h).runs_of_value hv
    ⟨hsum, writesA_adc i (BitVec.ofNat 8 (adcSum s.a v)) (adcCarry s.a v) s⟩

/-- Settles O20: A takes the exact difference narrowed, with Carry and Overflow written before
(42_arithmetic_compare.md R154, R156). -/
theorem sbcSubtractsWithBorrow : Obligations.SbcSubtractsWithBorrow := by
  intro s f v op i hv h
  refine (isFormInstr_of_sbcForms h).runs_of_value hv ?_
  rw [← sbcDiff_eq]
  exact ⟨sbcByte_toNat s.a v (s.flag .c), writesA_sbc i (sbcByte s.a v (s.flag .c)) (sbcCarry s.a v (s.flag .c))
    (sbcOverflow s.a v (s.flag .c)) s⟩

/-- Settles O21: neither the query nor the action of ADC or SBC reads or writes Decimal (42_arithmetic_compare.md R157). -/
theorem decimalHasNoEffect : Obligations.DecimalHasNoEffect := by
  rintro s e f op i (h | h)
  · simpa only [exec_of_adcForms h] using sameButDecimal_addA f s e
  · simpa only [exec_of_sbcForms h] using sameButDecimal_subtractA f s e

/-- Settles O24: the operations behind these instructions write Carry unread (42_arithmetic_compare.md R153,
43_shift_rotate.md R160 to R164). -/
theorem adcAndShiftsNeverReadCarry : Obligations.AdcAndShiftsNeverReadCarry := by
  rintro s e f op i (h | rfl | rfl | rfl | rfl | h | h | h | h)
  · exact (isFormInstr_of_adcForms h).exec_congr (addA_setFlag_carry f s e)
  · exact shiftAcc_setFlag_carry aslOp s e
  · exact shiftAcc_setFlag_carry lsrOp s e
  · exact shiftAcc_setFlag_carry rolOp s e
  · exact shiftAcc_setFlag_carry rorOp s e
  · exact (isFormInstr_of_aslForms h).exec_congr (shiftMem_setFlag_carry aslOp f s e)
  · exact (isFormInstr_of_lsrForms h).exec_congr (shiftMem_setFlag_carry lsrOp f s e)
  · exact (isFormInstr_of_rolForms h).exec_congr (shiftMem_setFlag_carry rolOp f s e)
  · exact (isFormInstr_of_rorForms h).exec_congr (shiftMem_setFlag_carry rorOp f s e)

end Sys2Proof.Claim
end

section
/-! What a shift or rotate makes of a byte, in the shifts and rotations of bit vectors (43_shift_rotate.md R160 to R163). -/

namespace Sys2Proof.Machine

variable (v : Byte)

theorem ofNat_toNat_mul_two : BitVec.ofNat 8 (v.toNat * 2) = v <<< 1 := by bv_omega

theorem ofNat_toNat_div_two : BitVec.ofNat 8 (v.toNat / 2) = v >>> 1 := by bv_omega

/-- The bit that ROL brings back, at bit 0 (43_shift_rotate.md R162). -/
theorem ite_bit_seven_eq_ushiftRight : (if v.getLsbD 7 then (0x01 : Byte) else 0x00) = v >>> 7 := by
  have hbit : v.getLsbD 7 = decide (v.toNat / 128 % 2 = 1) := Nat.testBit_eq_decide_div_mod_eq
  simp only [hbit, decide_eq_true_iff]
  split
  next hone => bv_omega
  next hzero => bv_omega

/-- The bit that ROR brings back, at bit 7 (43_shift_rotate.md R163). -/
theorem ite_bit_zero_eq_shiftLeft : (if v.getLsbD 0 then (0x80 : Byte) else 0x00) = v <<< 7 := by
  have hbit : v.getLsbD 0 = decide (v.toNat % 2 = 1) := Nat.testBit_zero _
  simp only [hbit, decide_eq_true_iff]
  split
  next hone => bv_omega
  next hzero => bv_omega

theorem aslOp_eq : aslOp v = ⟨v.getLsbD 7, v <<< 1⟩ := by
  rw [aslOp, ofNat_toNat_mul_two]

theorem lsrOp_eq : lsrOp v = ⟨v.getLsbD 0, v >>> 1⟩ := by
  rw [lsrOp, ofNat_toNat_div_two]

theorem rolOp_eq : rolOp v = ⟨v.getLsbD 7, v.rotateLeft 1⟩ := by
  rw [rolOp, ofNat_toNat_mul_two, ite_bit_seven_eq_ushiftRight, BitVec.rotateLeft_def]

theorem rorOp_eq : rorOp v = ⟨v.getLsbD 0, v.rotateRight 1⟩ := by
  rw [rorOp, ofNat_toNat_div_two, ite_bit_zero_eq_shiftLeft, BitVec.rotateRight_def]

end Sys2Proof.Machine
end

section
/-! Shifts and rotates (43_shift_rotate.md): the accumulator forms go through `SetA`, the memory forms through one write of
memory, and Carry is written beside. -/

namespace Sys2Proof.Claim

open Sys2Proof.Machine

variable {f : Form} {op : Byte} {i : Instr} {s t : State} {shift : Byte → Shifted} {c : Bool} {r : Byte}

/-! ### What a shift leaves -/

theorem StoresByte.setFlag {ea : Word} {v : Byte} {w : List (Flag × Bool)} (h : StoresByte i ea v w s t) (g : Flag)
    (e : Bool) : StoresByte i ea v ((g, e) :: w) s (t.setFlag g e) := by
  obtain ⟨ht, hbyte, hw⟩ := h
  exact ⟨congrArg (State.setFlag · g e) ht, hbyte, hw.setFlag g e⟩

/-- A memory form writes Carry beside the byte, in either order (43_shift_rotate.md R164). -/
theorem storesByte_shift (i : Instr) (ea : Word) (r : Byte) (c : Bool) (hm : Memory.wf s.mem = true) :
    StoresByte i ea r [(.c, c)] s (((s.advance i.length).setFlag .c c).writeByte ea r) :=
  (storesByte_writeByte i ea r hm).setFlag .c c

/-! ### The run of an accumulator form and of a memory form (43_shift_rotate.md R164) -/

/-- The accumulator form writes Carry and A as ADC does, Carry before `SetA`. -/
theorem runs_of_shiftAcc (hop : (encode s.cfg i).head? = some op) (hlen : i.length = 1)
    (hexec : exec i s = shiftAcc shift s) (hshift : shift s.a = ⟨c, r⟩) :
    Runs op i s (WritesA i r ((.c, c) :: nz r) s) := by
  have hnext : shiftAcc shift s = .next (((s.advance i.length).setFlag .c c).setA r) := by
    rw [shiftAcc, State.advance_a, hshift, hlen]
  exact ⟨hop, _, hexec.trans hnext, writesA_adc i r c s⟩

theorem IsFormInstr.runs_of_shiftMem {ea : Word} (hi : IsFormInstr f op i (shiftMem shift f))
    (hm : Memory.wf s.mem = true) (ha : formAddress f s = .ok ea) (hshift : shift (s.readByte ea) = ⟨c, r⟩) :
    Runs op i s (StoresByte i ea r [(.c, c)] s) := by
  refine hi.runs_of_address ha ?_
  rw [State.advance_readByte, hshift]
  exact storesByte_shift i ea r c hm

/-! ### The statements -/

/-- Settles O22: each accumulator form is its operation on A (43_shift_rotate.md R160 to R164). -/
theorem accumulatorShifts : Obligations.AccumulatorShifts := by
  intro s
  refine ⟨?asl, ?lsr, ?rol, ?ror⟩
  case asl => exact runs_of_shiftAcc rfl rfl rfl (aslOp_eq s.a)
  case lsr => exact runs_of_shiftAcc rfl rfl rfl (lsrOp_eq s.a)
  case rol => exact runs_of_shiftAcc rfl rfl rfl (rolOp_eq s.a)
  case ror => exact runs_of_shiftAcc rfl rfl rfl (rorOp_eq s.a)

/-- Settles O23: each memory form is its operation on the byte its address query finds (43_shift_rotate.md R160 to R164,
92_eei_decisions.md D12). -/
theorem memoryShiftsWriteCarryOnly : Obligations.MemoryShiftsWriteCarryOnly := by
  rintro s f ea _ op i hm ha rfl
  refine ⟨fun h => ?asl, fun h => ?lsr, fun h => ?rol, fun h => ?ror⟩
  case asl => exact (isFormInstr_of_aslForms h).runs_of_shiftMem hm ha (aslOp_eq _)
  case lsr => exact (isFormInstr_of_lsrForms h).runs_of_shiftMem hm ha (lsrOp_eq _)
  case rol => exact (isFormInstr_of_rolForms h).runs_of_shiftMem hm ha (rolOp_eq _)
  case ror => exact (isFormInstr_of_rorForms h).runs_of_shiftMem hm ha (rorOp_eq _)

end Sys2Proof.Claim
end

section
/-! Bit test and logic (44_bit_logic.md): BIT is the value query followed by three flags written, AND, ORA and EOR are the
value query followed by `SetA`. -/

namespace Sys2Proof.Claim

open Sys2Proof.Machine

variable {f : Form} {op : Byte} {i : Instr} {s t : State}

/-! ### The instruction of a form -/

theorem isFormInstr_of_bitForms (h : bitForms f = some (op, i)) : IsFormInstr f op i (bitTest f) := by
  cases f with
  | zp | abs => cases h; exact ⟨fun _ => rfl, rfl, fun _ => rfl⟩
  | _ => cases h

theorem isFormInstr_of_andForms (h : andForms f = some (op, i)) : IsFormInstr f op i (andA f) := by
  have hexec (s : State) : exec i s = andA f s := exec_of_andForms h
  cases f with
  | zpy => cases h
  | _ => cases h; exact ⟨fun _ => rfl, rfl, hexec⟩

theorem isFormInstr_of_oraForms (h : oraForms f = some (op, i)) : IsFormInstr f op i (orA f) := by
  have hexec (s : State) : exec i s = orA f s := exec_of_oraForms h
  cases f with
  | zpy => cases h
  | _ => cases h; exact ⟨fun _ => rfl, rfl, hexec⟩

theorem isFormInstr_of_eorForms (h : eorForms f = some (op, i)) : IsFormInstr f op i (xorA f) := by
  have hexec (s : State) : exec i s = xorA f s := exec_of_eorForms h
  cases f with
  | zpy => cases h
  | _ => cases h; exact ⟨fun _ => rfl, rfl, hexec⟩

/-! ### What BIT leaves -/

/-- N and V are written from the memory byte alone, Z from its AND with A (44_bit_logic.md R170). -/
theorem flagsWritten_of_bitFlags {m a : Byte} (h : t.p = bitFlags m a s.p) :
    FlagsWritten [(.n, m.getLsbD 7), (.v, m.getLsbD 6), (.z, (m &&& a) == 0)] s t := by
  intro g
  rw [State.flag, h, getFlag_bitFlags]
  cases g <;> rfl

theorem onlyFlags_bit (i : Instr) (m : Byte) (s : State) :
    OnlyFlags i [(.n, m.getLsbD 7), (.v, m.getLsbD 6), (.z, (m &&& s.a) == 0)] s
      ((s.advance i.length).setP (bitFlags m s.a s.p)) :=
  ⟨rfl, flagsWritten_of_bitFlags rfl⟩

/-! ### The statements -/

/-- Settles O25: BIT is the value query followed by `bitFlags` on P (44_bit_logic.md R170). -/
theorem bitTestsMemory : Obligations.BitTestsMemory := by
  intro s f m op i hm h
  exact (isFormInstr_of_bitForms h).runs_of_value hm (onlyFlags_bit i m s)

/-- Settles O26: each of the three is the value query followed by `SetA` of A combined with the value
(44_bit_logic.md R171 to R173). -/
theorem logicWritesA : Obligations.LogicWritesA := by
  intro s f m op i hm
  refine ⟨fun h => ?and, fun h => ?ora, fun h => ?eor⟩
  case and => exact (isFormInstr_of_andForms h).runs_of_value hm (writesA_setA i (s.a &&& m) s)
  case ora => exact (isFormInstr_of_oraForms h).runs_of_value hm (writesA_setA i (s.a ||| m) s)
  case eor => exact (isFormInstr_of_eorForms h).runs_of_value hm (writesA_setA i (s.a ^^^ m) s)

end Sys2Proof.Claim
end

section
/-! A byte plus or minus one, mod 256 (45_incdec.md R180 to R185): the sum and the difference of bit vectors against those
of the integers. -/

namespace Sys2Proof.Machine

variable (v : Byte)

theorem ofNat_toNat_add_one : BitVec.ofNat 8 (v.toNat + 1) = v + 1 := by bv_omega

/-- The difference is an integer's, so that 0x00 goes to 0xFF (45_incdec.md R181). -/
theorem ofInt_toNat_sub_one : BitVec.ofInt 8 ((v.toNat : Int) - 1) = v - 1 := by
  have hint : (BitVec.ofInt 8 ((v.toNat : Int) - 1)).toNat = (((v.toNat : Int) - 1) % 256).toNat := BitVec.toNat_ofInt _
  bv_omega

theorem toNat_add_one : (v + 1).toNat = (v.toNat + 1) % 256 := BitVec.toNat_add v 1

theorem toNat_sub_one : (v - 1).toNat = (v.toNat + 255) % 256 := by bv_omega

end Sys2Proof.Machine
end

section
/-! Increments and decrements (45_incdec.md): the memory forms are the address query followed by one write of memory, the
register forms go through `SetX` and `SetY`. -/

namespace Sys2Proof.Claim

open Sys2Proof.Machine

variable {f : Form} {op : Byte} {i : Instr} {s : State}

/-! ### The instruction of a form -/

theorem isFormInstr_of_incForms (h : incForms f = some (op, i)) : IsFormInstr f op i (incrementMem f) := by
  cases f with
  | zp | zpx | abs | absx => cases h; exact ⟨fun _ => rfl, rfl, fun _ => rfl⟩
  | _ => cases h

theorem isFormInstr_of_decForms (h : decForms f = some (op, i)) : IsFormInstr f op i (decrementMem f) := by
  cases f with
  | zp | zpx | abs | absx => cases h; exact ⟨fun _ => rfl, rfl, fun _ => rfl⟩
  | _ => cases h

/-! ### The run of a register form (45_incdec.md R182 to R185) -/

theorem runs_of_setX {v : Byte} {n : Nat} (hop : (encode s.cfg i).head? = some op)
    (hexec : exec i s = .next ((s.advance i.length).setX v)) (hv : v.toNat = n) :
    Runs op i s (fun t => t.x.toNat = n ∧ WritesX i t.x (nz t.x) s t) :=
  ⟨hop, _, hexec, hv, writesX_setX i v s⟩

theorem runs_of_setY {v : Byte} {n : Nat} (hop : (encode s.cfg i).head? = some op)
    (hexec : exec i s = .next ((s.advance i.length).setY v)) (hv : v.toNat = n) :
    Runs op i s (fun t => t.y.toNat = n ∧ WritesY i t.y (nz t.y) s t) :=
  ⟨hop, _, hexec, hv, writesY_setY i v s⟩

/-! ### The statements -/

/-- Settles O27: INC and DEC write one byte, the one read plus or minus one, at the address their query finds, and leave P
(45_incdec.md R180, R181). -/
theorem memoryIncDecWriteNoFlag : Obligations.MemoryIncDecWriteNoFlag := by
  intro s f ea op i hm ha
  rw [ofNat_toNat_add_one, ofInt_toNat_sub_one]
  refine ⟨fun h => ?inc, fun h => ?dec⟩
  case inc => exact (isFormInstr_of_incForms h).runs_of_address ha (storesByte_writeByte i ea (s.readByte ea + 1) hm)
  case dec => exact (isFormInstr_of_decForms h).runs_of_address ha (storesByte_writeByte i ea (s.readByte ea - 1) hm)

/-- Settles O28: each is the setter of its register with the register plus or minus one (45_incdec.md R182 to R185). -/
theorem registerIncDec : Obligations.RegisterIncDec := by
  intro s
  refine ⟨?inx, ?iny, ?dex, ?dey⟩
  case inx => exact runs_of_setX rfl rfl (toNat_add_one s.x)
  case iny => exact runs_of_setY rfl rfl (toNat_add_one s.y)
  case dex => exact runs_of_setX rfl rfl (toNat_sub_one s.x)
  case dey => exact runs_of_setY rfl rfl (toNat_sub_one s.y)

end Sys2Proof.Claim
end

section
/-! Runs of pushes and of pulls (46_transfer_stack.md R200): where they leave SP, which bytes the pulls read, and that the
pushes stay inside the stack page. -/

namespace Sys2Proof.Claim

open Sys2Proof.Machine

variable {s : State}

/-! ### Pushes -/

theorem pushAll_append (s : State) (bs cs : List Byte) : pushAll s (bs ++ cs) = pushAll (pushAll s bs) cs := by
  induction bs generalizing s with
  | nil => rfl
  | cons v rest ih => exact ih (s.push v)

theorem pushAll_wf (bs : List Byte) (hm : Memory.wf s.mem = true) : Memory.wf (pushAll s bs).mem = true := by
  induction bs generalizing s with
  | nil => exact hm
  | cons v rest ih => exact ih (push_wf s v hm)

theorem pushAll_sp (s : State) (bs : List Byte) : (pushAll s bs).sp = s.sp - BitVec.ofNat 8 bs.length := by
  induction bs generalizing s with
  | nil => exact (BitVec.sub_zero s.sp).symm
  | cons v rest ih =>
    rw [pushAll, ih, State.push_sp, List.length_cons, BitVec.ofNat_add]
    bv_omega

/-- An address outside the page 0x0100 to 0x01FF is that of no stack cell (10_state.md R24). -/
theorem ne_stackAddr_of_outside {b : Word} (hb : b.toNat < 0x0100 ∨ 0x01FF < b.toNat) (sp : Byte) : b ≠ stackAddr sp := by
  rintro rfl
  rw [stackAddr_toNat] at hb
  omega

theorem readByte_pushAll_outside (s : State) (bs : List Byte) {b : Word} (hb : b.toNat < 0x0100 ∨ 0x01FF < b.toNat) :
    (pushAll s bs).readByte b = s.readByte b := by
  induction bs generalizing s with
  | nil => rfl
  | cons v rest ih => exact (ih (s.push v)).trans (readByte_push_other s v b (ne_stackAddr_of_outside hb s.sp))

/-! ### Pulls -/

theorem dropAll_sp (n : Nat) (s : State) : (dropAll n s).sp = s.sp + BitVec.ofNat 8 n := by
  induction n generalizing s with
  | zero => exact (BitVec.add_zero s.sp).symm
  | succ n ih =>
    rw [dropAll, ih, State.dropTop_sp, BitVec.ofNat_add]
    bv_omega

/-- Pulls see of a state only SP and the bytes above it: states that agree there return the same bytes. -/
theorem pullAll_congr {n : Nat} {t u : State} (hsp : t.sp = u.sp)
    (hread : ∀ k, 1 ≤ k → k ≤ n →
      t.readByte (stackAddr (u.sp + BitVec.ofNat 8 k)) = u.readByte (stackAddr (u.sp + BitVec.ofNat 8 k))) :
    pullAll n t = pullAll n u := by
  induction n generalizing t u with
  | zero => rfl
  | succ n ih =>
    have hpulled : t.pulled = u.pulled := by
      rw [State.pulled, State.pulled, hsp]
      exact hread 1 le_rfl (by omega)
    have hrest : pullAll n t.dropTop = pullAll n u.dropTop := by
      refine ih (by rw [State.dropTop_sp, State.dropTop_sp, hsp]) fun k hk hkn => ?_
      have hcell : u.dropTop.sp + BitVec.ofNat 8 k = u.sp + BitVec.ofNat 8 (k + 1) := by
        rw [State.dropTop_sp, BitVec.ofNat_add]
        bv_omega
      rw [hcell, State.dropTop_readByte, State.dropTop_readByte]
      exact hread (k + 1) (by omega) (by omega)
    rw [pullAll, pullAll, hpulled, hrest]

/-- The cell a push wrote is the one that fewer than 256 further pulls do not come round to (46_transfer_stack.md R200). -/
theorem pullAll_dropTop_push {n : Nat} (hn : n < 256) (t : State) (v : Byte) :
    pullAll n (t.push v).dropTop = pullAll n t := by
  refine pullAll_congr (dropTop_push_sp t v) fun k hk hkn => ?_
  have hcell : stackAddr (t.sp + BitVec.ofNat 8 k) ≠ stackAddr t.sp := by
    intro h
    have hsame : t.sp + BitVec.ofNat 8 k = t.sp := stackAddr_inj h
    bv_omega
  rw [State.dropTop_readByte, readByte_push_other t v _ hcell]

theorem pullAll_push {n : Nat} (hn : n < 256) (v : Byte) (hm : Memory.wf s.mem = true) :
    pullAll (n + 1) (s.push v) = v :: pullAll n s := by
  rw [pullAll, pulled_push s v hm, pullAll_dropTop_push hn]

/-! ### Pushes, then as many pulls -/

/-- By induction on the last push, which the first pull undoes. -/
theorem pullAll_pushAll (bs : List Byte) (hm : Memory.wf s.mem = true) (hlen : bs.length ≤ 256) :
    pullAll bs.length (pushAll s bs) = bs.reverse := by
  induction bs using List.reverseRecOn with
  | nil => rfl
  | append_singleton bs v ih =>
    rw [List.length_append, List.length_singleton] at hlen ⊢
    calc pullAll (bs.length + 1) (pushAll s (bs ++ [v]))
        = pullAll (bs.length + 1) ((pushAll s bs).push v) := by rw [pushAll_append]; rfl
      _ = v :: pullAll bs.length (pushAll s bs) := pullAll_push hlen v (pushAll_wf bs hm)
      _ = v :: bs.reverse := by rw [ih (by omega)]
      _ = (bs ++ [v]).reverse := List.reverse_concat.symm

theorem dropAll_pushAll_sp (s : State) (bs : List Byte) : (dropAll bs.length (pushAll s bs)).sp = s.sp := by
  rw [dropAll_sp, pushAll_sp, BitVec.sub_add_cancel]

end Sys2Proof.Claim
end

section
/-! Transfers and the stack (46_transfer_stack.md): a transfer is the setter of its target register, a push one write of
memory and SP lowered, a pull SP raised and the setter of its target. -/

namespace Sys2Proof.Claim

open Sys2Proof.Machine

variable {op : Byte} {i : Instr} {s : State}

/-! ### The run of a push -/

theorem onlyByte_push (v : Byte) (hm : Memory.wf s.mem = true) : OnlyByte (stackAddr s.sp) v s (s.push v) :=
  onlyByte_writeByte (stackAddr s.sp) v hm

theorem runs_of_push {v : Byte} (hm : Memory.wf s.mem = true) (hop : (encode s.cfg i).head? = some op)
    (hexec : exec i s = .next ((s.advance i.length).push v)) :
    Runs op i s (fun t => t = { s with mem := t.mem, sp := s.sp - 1, pc := nextPC i s } ∧
      OnlyByte (stackAddr s.sp) v s t) :=
  ⟨hop, _, hexec, rfl, onlyByte_push (s := s.advance i.length) v hm⟩

/-! ### The statements -/

/-- Settles O29: five of the six go through a setter that writes Z and N, TXS through `SetSP`, which writes no flag
(46_transfer_stack.md R190 to R195). -/
theorem transfersCopyRegisters : Obligations.TransfersCopyRegisters := by
  intro s
  refine ⟨?tax, ?tay, ?txa, ?tya, ?tsx, ?txs⟩
  case tax => exact ⟨rfl, _, rfl, writesX_setX .tax s.a s⟩
  case tay => exact ⟨rfl, _, rfl, writesY_setY .tay s.a s⟩
  case txa => exact ⟨rfl, _, rfl, writesA_setA .txa s.x s⟩
  case tya => exact ⟨rfl, _, rfl, writesA_setA .tya s.y s⟩
  case tsx => exact ⟨rfl, _, rfl, writesX_setX .tsx s.sp s⟩
  case txs => exact ⟨rfl, _, rfl, rfl⟩

/-- Settles O30: each is one push, of A or of P as it stands (46_transfer_stack.md R196, R198). -/
theorem pushesStoreAtTheStackPointer : Obligations.PushesStoreAtTheStackPointer := by
  intro s hm
  exact ⟨runs_of_push hm rfl rfl, runs_of_push hm rfl rfl⟩

/-- Settles O31: each is one pull, into A through `SetA` or into P whole (46_transfer_stack.md R197, R199). -/
theorem pullsLoadFromTheStack : Obligations.PullsLoadFromTheStack := by
  rintro s _ rfl
  refine ⟨?pla, ?plp⟩
  case pla => exact ⟨rfl, _, rfl, rfl, flagsWritten_of_putNZ (State.setA_p _ s.pulled)⟩
  case plp => exact ⟨rfl, _, rfl, rfl⟩

/-- Settles O32: the pulls undo the pushes from the last one back, and every push writes a stack cell
(46_transfer_stack.md R200). -/
theorem stackReturnsBytesInReverse : Obligations.StackReturnsBytesInReverse := by
  intro s bs hm hlen
  exact ⟨pullAll_pushAll bs hm hlen, dropAll_pushAll_sp s bs, fun _ hb => readByte_pushAll_outside s bs hb⟩

end Sys2Proof.Claim
end

section
/-! Where a run of pushes puts its bytes: the k-th at the k-th cell below SP (00_scope.md R13). -/

namespace Sys2Proof.Claim

open Sys2Proof.Machine

variable {s : State}

theorem readByte_pushAll_other (s : State) (bs : List Byte) {b : Word}
    (hb : ∀ k < bs.length, b ≠ stackAddr (s.sp - BitVec.ofNat 8 k)) : (pushAll s bs).readByte b = s.readByte b := by
  induction bs generalizing s with
  | nil => rfl
  | cons v rest ih =>
    have hhead : b ≠ stackAddr s.sp := by simpa using hb 0 (Nat.zero_lt_succ _)
    have hrest : ∀ k < rest.length, b ≠ stackAddr ((s.push v).sp - BitVec.ofNat 8 k) := by
      intro k hk
      have hcell : (s.push v).sp - BitVec.ofNat 8 k = s.sp - BitVec.ofNat 8 (k + 1) := by
        rw [State.push_sp, BitVec.ofNat_add]
        bv_omega
      rw [hcell]
      exact hb (k + 1) (Nat.succ_lt_succ hk)
    exact (ih (s.push v) hrest).trans (readByte_push_other s v b hhead)

/-- As long as the pushes do not come round, no later one overwrites the first. -/
theorem readByte_pushAll_head (v : Byte) (rest : List Byte) (hm : Memory.wf s.mem = true) (hlen : rest.length < 256) :
    (pushAll s (v :: rest)).readByte (stackAddr s.sp) = v := by
  have hlater : ∀ k < rest.length, stackAddr s.sp ≠ stackAddr ((s.push v).sp - BitVec.ofNat 8 k) := by
    intro k hk h
    have hsame : s.sp = s.sp - 1 - BitVec.ofNat 8 k := stackAddr_inj h
    bv_omega
  exact (readByte_pushAll_other (s.push v) rest hlater).trans (readByte_writeByte_same s _ v hm)

/-- The same of the k-th, in the cell that SP names at its push. -/
theorem readByte_pushAll_cell (bs : List Byte) (hm : Memory.wf s.mem = true) (hlen : bs.length ≤ 256) {k : Nat}
    (hk : k < bs.length) : (pushAll s bs).readByte (stackAddr (s.sp - BitVec.ofNat 8 k)) = bs[k] := by
  induction bs generalizing s k with
  | nil => cases hk
  | cons v rest ih =>
    rw [List.length_cons] at hlen hk
    cases k with
    | zero =>
      have hzero : s.sp - BitVec.ofNat 8 0 = s.sp := BitVec.sub_zero s.sp
      rw [hzero]
      exact readByte_pushAll_head v rest hm hlen
    | succ k =>
      have hcell : s.sp - BitVec.ofNat 8 (k + 1) = (s.push v).sp - BitVec.ofNat 8 k := by
        rw [State.push_sp, BitVec.ofNat_add]
        bv_omega
      rw [hcell]
      exact ih (push_wf s v hm) (by omega) (by omega)

end Sys2Proof.Claim
end

section
/-! Branches, jumps and subroutines (47_control_flow.md): JSR is two pushes and a jump, RTS two pulls and a jump. -/

namespace Sys2Proof.Claim

open Sys2Proof.Machine

variable {op : Byte} {i : Instr} {s : State}

/-! ### Branches and jumps -/

/-- The target of a branch in integer arithmetic: the next instruction plus the signed offset (40_addressing.md R130). -/
theorem relTarget_eq_ofInt (s : State) (off : Byte) :
    relTarget s off = BitVec.ofInt 16 (((s.pc.toNat + 2) % 65536 : Nat) + off.toInt) := by
  have hnext : BitVec.ofInt 16 ((s.pc.toNat + 2) % 65536 : Nat) = s.pc + 2 := by
    rw [BitVec.ofInt_natCast]
    bv_omega
  rw [BitVec.ofInt_add, hnext]
  rfl

/-- The run of a branch (47_control_flow.md R205). -/
theorem runs_of_branchIf {taken : Bool} {off : Byte} (hop : (encode s.cfg i).head? = some op)
    (hexec : exec i s = branchIf taken off s) :
    Runs op i s (fun t => t = { s with
      pc := if taken then BitVec.ofInt 16 (((s.pc.toNat + 2) % 65536 : Nat) + off.toInt) else s.pc + 2 }) := by
  refine ⟨hop, _, hexec, ?_⟩
  rw [← relTarget_eq_ofInt]
  cases taken <;> rfl

/-- A word read, in integer arithmetic (20_memory.md R67). -/
theorem readWord_toNat (s : State) (a : Word) :
    (s.readWord a).toNat = (s.mem.read ((a.toNat + 1) % 65536)).toNat * 256 + (s.mem.read a.toNat).toNat := by
  have hhigh : (a + 1).toNat = (a.toNat + 1) % 65536 := BitVec.toNat_add a 1
  rw [State.readWord, wordOf_toNat, State.readByte, State.readByte, hhigh]

/-- Settles O33: each branch tests its flag and goes to `relTarget` or to the next instruction (47_control_flow.md R205 to
R213). -/
theorem branchesTestOneFlag : Obligations.BranchesTestOneFlag := by
  intro s off goesTo
  exact ⟨runs_of_branchIf rfl rfl, runs_of_branchIf rfl rfl, runs_of_branchIf rfl rfl, runs_of_branchIf rfl rfl,
    runs_of_branchIf rfl rfl, runs_of_branchIf rfl rfl, runs_of_branchIf rfl rfl, runs_of_branchIf rfl rfl⟩

/-- Settles O34: both forms are `SetPC`, of the operand or of the word read there (47_control_flow.md R214, R215). -/
theorem jumpsSetPC : Obligations.JumpsSetPC := by
  intro s a
  refine ⟨?absolute, ?indirect⟩
  case absolute => exact ⟨rfl, _, rfl, rfl⟩
  case indirect => exact ⟨rfl, _, rfl, rfl, readWord_toNat s a⟩

/-! ### Subroutines -/

/-- The bytes JSR pushes: the address of its last byte, high byte first (47_control_flow.md R216). -/
def returnBytes (s : State) : List Byte := [hiByte (s.pc + 2), loByte (s.pc + 2)]

/-- JSR is two pushes and a jump (47_control_flow.md R216). -/
theorem exec_jsr (a : Word) (s : State) : exec (.jsr a) s = .next ((pushAll s (returnBytes s)).setPC a) := by
  have hlast : (s.advance 3).pc - 1 = s.pc + 2 := by
    rw [State.advance_pc]
    bv_omega
  change execJsr a s = _
  rw [execJsr, hlast]
  rfl

/-- What RTS leaves in every field (47_control_flow.md R217). -/
theorem exec_rts (s : State) :
    exec .rts s = .next { s with
      sp := s.sp + 2
      pc := wordOf (s.readByte (stackAddr (s.sp + 1))) (s.readByte (stackAddr (s.sp + 2))) + 1 } := by
  have htwo : s.sp + 1 + 1 = s.sp + 2 := by bv_omega
  change execRts s = _
  rw [← htwo]
  rfl

theorem jsr_cells (a : Word) (hm : Memory.wf s.mem = true) :
    ((pushAll s (returnBytes s)).setPC a).readByte (stackAddr s.sp) = hiByte (s.pc + 2) ∧
      ((pushAll s (returnBytes s)).setPC a).readByte (stackAddr (s.sp - 1)) = loByte (s.pc + 2) := by
  have htwo : (returnBytes s).length = 2 := rfl
  exact ⟨readByte_pushAll_head _ _ hm (by simp), readByte_pushAll_cell (returnBytes s) hm (by omega) (k := 1) (by omega)⟩

/-- Settles O35: the two pushes of JSR fill two cells, and SP is two lower (47_control_flow.md R216). -/
theorem jsrPushesTheReturnAddress : Obligations.JsrPushesTheReturnAddress := by
  intro s a hm
  obtain ⟨hhigh, hlow⟩ := jsr_cells a hm
  have hsp : (pushAll s (returnBytes s)).sp = s.sp - 2 := pushAll_sp s (returnBytes s)
  refine ⟨rfl, _, exec_jsr a s, ?frame, hhigh, hlow, ?others⟩
  case frame =>
    rw [← hsp]
    rfl
  case others =>
    intro b hfirst hsecond
    refine readByte_pushAll_other s (returnBytes s) fun k hk => ?_
    obtain rfl | rfl : k = 0 ∨ k = 1 := by
      have : k < 2 := hk
      omega
    · simpa using hfirst
    · exact hsecond

/-- Settles O36: the two pulls of RTS, low byte first, and the jump behind the word (47_control_flow.md R217). -/
theorem rtsPullsTheReturnAddress : Obligations.RtsPullsTheReturnAddress := by
  intro s
  refine ⟨rfl, _, exec_rts s, rfl, ?_⟩
  rw [← wordOf_toNat]
  exact BitVec.toNat_add _ 1

/-- Settles O37: the pulls of RTS read the two cells JSR filled (47_control_flow.md R216, R217). -/
theorem rtsReturnsBehindJsr : Obligations.RtsReturnsBehindJsr := by
  intro s u t a hm hjsr hsp hfirst hsecond
  obtain rfl : _ = t := Host.Outcome.next.inj ((exec_jsr a s).symm.trans hjsr)
  obtain ⟨hhigh, hlow⟩ := jsr_cells a hm
  have husp : u.sp = s.sp - 2 := hsp.trans (pushAll_sp s (returnBytes s))
  have hone : u.sp + 1 = s.sp - 1 := by bv_omega
  have htwo : u.sp + 2 = s.sp := by bv_omega
  have hback : s.pc + 2 + 1 = nextPC (.jsr a) s := BitVec.add_assoc s.pc 2 1
  rw [exec_rts, hone, htwo, hfirst, hsecond, hhigh, hlow, wordOf_lo_hi, hback]

end Sys2Proof.Claim
end

section
/-! The single-flag instructions and NOP (48_flag_nop.md). -/

namespace Sys2Proof.Claim

open Sys2Proof.Machine

variable {op : Byte} {i : Instr} {s : State}

/-- The run of a single-flag instruction: one flag written behind the opcode. -/
theorem runs_of_putOneFlag {g : Flag} {e : Bool} (hop : (encode s.cfg i).head? = some op) (hlen : i.length = 1)
    (hexec : exec i s = putOneFlag g e s) : Runs op i s (OnlyFlags i [(g, e)] s) := by
  have hnone : FlagsWritten [] s (s.advance 1) := fun _ => rfl
  refine ⟨hop, _, hexec, ?_, hnone.setFlag g e⟩
  rw [nextPC, hlen]
  rfl

/-- Settles O38: seven times one flag written, and one advance of PC (48_flag_nop.md R225 to R232). -/
theorem flagInstructionsWriteOneBit : Obligations.FlagInstructionsWriteOneBit := by
  intro s
  exact ⟨runs_of_putOneFlag rfl rfl rfl, runs_of_putOneFlag rfl rfl rfl, runs_of_putOneFlag rfl rfl rfl,
    runs_of_putOneFlag rfl rfl rfl, runs_of_putOneFlag rfl rfl rfl, runs_of_putOneFlag rfl rfl rfl,
    runs_of_putOneFlag rfl rfl rfl, rfl, _, rfl, rfl⟩

end Sys2Proof.Claim
end

section
/-! System and custom instructions (49_system_custom.md): the fatal events of BRK and ERR, the three pulls of RTI, and the
block copies, which read every byte before they write one. -/

namespace Sys2Proof.Claim

open Sys2Proof.Machine

variable {op : Byte} {i : Instr} {s : State}

/-! ### BRK, ERR and RTI -/

/-- Settles O39: both raise their fatal event at the opcode's address (49_system_custom.md R235, R236). -/
theorem brkAndErrHalt : Obligations.BrkAndErrHalt := by
  intro s
  refine ⟨rfl, rfl, ?brk, ?err⟩
  case brk => exact ⟨rfl, _, rfl, rfl⟩
  case err => exact ⟨rfl, _, rfl, rfl⟩

/-- What RTI leaves in every field (49_system_custom.md R237). -/
theorem exec_rti (s : State) :
    exec .rti s = .next { s with
      p := s.readByte (stackAddr (s.sp + 1))
      pc := wordOf (s.readByte (stackAddr (s.sp + 2))) (s.readByte (stackAddr (s.sp + 3)))
      sp := s.sp + 3
      inProgress := false } := by
  have htwo : s.sp + 1 + 1 = s.sp + 2 := by bv_omega
  have hthree : s.sp + 2 + 1 = s.sp + 3 := by bv_omega
  change Host.Outcome.next s.returnFromInterrupt = _
  rw [returnFromInterrupt_eq, htwo, hthree]

/-- Settles O40: the return from the interrupt, which does not read the mark (49_system_custom.md R237). -/
theorem rtiRestores : Obligations.RtiRestores :=
  fun s => ⟨rfl, _, exec_rti s, rfl⟩

/-! ### Block copies -/

/-- The cells of a block in integer addresses (49_system_custom.md R240). -/
theorem add_ofNat_toNat {a : Word} {n k : Nat} (hfit : a.toNat + n ≤ 65536) (hk : k < n) :
    (a + BitVec.ofNat 16 k).toNat = a.toNat + k := by
  bv_omega

/-- A block read, then written: the destination holds what the source held before. -/
theorem read_writeBlock_readBlock {src dst : Word} {n k : Nat} (hm : Memory.wf s.mem = true)
    (hsrc : src.toNat + n ≤ 65536) (hdst : dst.toNat + n ≤ 65536) (hk : k < n) :
    (s.writeBlock dst (s.readBlock src n)).mem.read (dst.toNat + k) = s.mem.read (src.toNat + k) := by
  have hlen : (s.readBlock src n).length = n := readBlock_length s src n
  calc (s.writeBlock dst (s.readBlock src n)).mem.read (dst.toNat + k)
      = (s.writeBlock dst (s.readBlock src n)).readByte (dst + BitVec.ofNat 16 k) := by
        rw [State.readByte, add_ofNat_toNat hdst hk]
    _ = (s.readBlock src n)[k] := readByte_writeBlock_inside s dst _ k (by omega) hm (by omega)
    _ = s.readByte (src + BitVec.ofNat 16 k) := readBlock_getElem s src n k (by omega)
    _ = s.mem.read (src.toNat + k) := by rw [State.readByte, add_ofNat_toNat hsrc hk]

theorem readByte_writeBlock_readBlock_outside {src dst b : Word} {n : Nat} (hdst : dst.toNat + n ≤ 65536)
    (hb : b.toNat < dst.toNat ∨ dst.toNat + n ≤ b.toNat) :
    (s.writeBlock dst (s.readBlock src n)).readByte b = s.readByte b :=
  readByte_writeBlock_outside s dst b _ (by rwa [readBlock_length]) (by rwa [readBlock_length])

/-- The run of CBL or CBS within the bounds (49_system_custom.md R240). -/
theorem runs_of_blockCopy {src dst : Word} {n : Nat} (hop : (encode s.cfg i).head? = some op)
    (hexec : exec i s = blockCopy src dst n (s.advance i.length)) (hm : Memory.wf s.mem = true)
    (hcache : n ≤ s.cfg.cacheSize) (hsrc : src.toNat + n ≤ 65536) (hdst : dst.toNat + n ≤ 65536) :
    Runs op i s (fun t => t = { s with mem := t.mem, pc := nextPC i s } ∧
      (∀ k, k < n → t.mem.read (dst.toNat + k) = s.mem.read (src.toNat + k)) ∧
      (∀ b : Word, b.toNat < dst.toNat ∨ dst.toNat + n ≤ b.toNat → t.readByte b = s.readByte b)) := by
  refine ⟨hop, _, hexec.trans (blockCopy_ok hcache hsrc hdst), writeBlock_eq (s.advance i.length) dst _,
    ?inside, ?outside⟩
  case inside => exact fun k hk => read_writeBlock_readBlock (s := s.advance i.length) hm hsrc hdst hk
  case outside => exact fun b hb => readByte_writeBlock_readBlock_outside (s := s.advance i.length) hdst hb

/-- Settles O41: both are one block copy, to the cache region or from it (49_system_custom.md R238 to R240). -/
theorem blockCopiesAreOverlapSafe : Obligations.BlockCopiesAreOverlapSafe := by
  intro s a len hm hcache ha hstart copied
  exact ⟨runs_of_blockCopy rfl rfl hm hcache ha hstart, runs_of_blockCopy rfl rfl hm hcache hstart ha⟩

/-- Settles O42: out of bounds the copy is a refuse point of both (49_system_custom.md R240). -/
theorem blockCopiesOutOfBoundsRefuse : Obligations.BlockCopiesOutOfBoundsRefuse := by
  intro s a len
  have refuses {r : Refusal} (h : RefusesBlock s.cfg a s.cfg.cacheStart len.toNat r) :
      exec (.cbl a len) s = .refused r ∧ exec (.cbs a len) s = .refused r :=
    ⟨((exec_stopsExactly _ s).refused_iff r).mpr (refusePoint_cbl.mpr h),
      ((exec_stopsExactly _ s).refused_iff r).mpr (refusePoint_cbs.mpr h)⟩
  exact ⟨fun hlong => refuses (Or.inl ⟨rfl, hlong⟩), fun hfit hend => refuses (Or.inr ⟨rfl, hfit, hend⟩)⟩

/-! ### What no instruction does -/

/-- Settles O45: the controller's state lies outside every footprint, but for the mark of RTI and the run state of BRK and
ERR (49_system_custom.md R241, 10_state.md R40 to R44). -/
theorem instructionsLeaveTheController : Obligations.InstructionsLeaveTheController := by
  intro i s t h
  have hw := exec_within h
  have hmark (hrti : i ≠ .rti) : clearsMark i = false := by
    cases i with
    | rti => exact absurd rfl hrti
    | _ => rfl
  have hrun (hbrk : i ≠ .brk) (herr : i ≠ .err) : haltsCore i = false := by
    cases i with
    | brk => exact absurd rfl hbrk
    | err => exact absurd rfl herr
    | _ => rfl
  exact ⟨hw.justResumed, hw.intervalCount, hw.intervalSteps, hw.serviceSteps, hw.keyQueue, hw.inbox, hw.emitted, hw.cfg,
    fun hrti => hw.inProgress (hmark hrti), fun hbrk herr => hw.sameRun (hrun hbrk herr)⟩

end Sys2Proof.Claim
end

section
/-! The interrupt (60_exceptions.md R264 to R270): the drain's cells, the entry as a drain and three pushes, and its
return. -/

namespace Sys2Proof.Claim

open Sys2Proof.Machine

variable {s : State}

/-! ### The keyboard drain (60_exceptions.md R268) -/

/-- The cells the drain may write are the count cell and those of the data region. -/
theorem not_mem_kbdCells {c : Config} {b : Word} (hfits : c.keyboardFits = true) (hcount : b ≠ c.kbdCountAddr)
    (hdata : b.toNat < c.kbdDataStart.toNat ∨ c.kbdDataStart.toNat + c.kbdCapacity ≤ b.toNat) : b ∉ kbdCells c := by
  have hend : c.kbdDataStart.toNat + c.kbdCapacity ≤ 65536 := of_decide_eq_true hfits
  simp only [kbdCells, List.mem_cons, List.mem_map, List.mem_range, not_or, not_exists, not_and]
  refine ⟨hcount, fun k hk hcell => ?_⟩
  have haddr := add_ofNat_toNat hend hk
  rw [hcell] at haddr
  omega

/-- Settles O49: an empty queue changes nothing, and the drain writes its cells only (60_exceptions.md R268). -/
theorem keyboardDrainIsConfined : Obligations.KeyboardDrainIsConfined := by
  intro s
  exact ⟨keyboardDrain_empty s, keyboardDrain_eq s, fun hfits b hcount hdata =>
    keyboardDrain_read_other s b (not_mem_kbdCells hfits hcount hdata)⟩

/-! ### Interrupt entry and its return (60_exceptions.md R266, R269) -/

@[simp] theorem keyboardDrain_sp (s : State) : s.keyboardDrain.sp = s.sp := by rw [keyboardDrain_eq]

/-- The bytes interrupt entry pushes: PC, high byte first, and P as it stands (60_exceptions.md R266). -/
def entryBytes (s : State) : List Byte := [hiByte s.pc, loByte s.pc, s.p]

theorem interruptEntry_sp (s : State) : s.interruptEntry.sp = s.sp - 3 := by
  have hthree : s.sp - 1 - 1 - 1 = s.sp - 3 := by bv_omega
  exact (congrArg State.sp (interruptEntry_eq s)).trans hthree

/-- Memory after the entry is that of the three pushes onto the drained state. -/
theorem interruptEntry_readByte (s : State) (b : Word) :
    s.interruptEntry.readByte b = (pushAll s.keyboardDrain (entryBytes s)).readByte b := by
  have hmem : s.interruptEntry.mem = (pushAll s.keyboardDrain (entryBytes s)).mem := by
    rw [interruptEntry_eq]
    simp [pushAll, entryBytes]
  rw [State.readByte, State.readByte, hmem]

theorem interruptEntry_cell {k : Nat} (hm : Memory.wf s.mem = true) (hk : k < (entryBytes s).length) :
    s.interruptEntry.readByte (stackAddr (s.sp - BitVec.ofNat 8 k)) = (entryBytes s)[k] := by
  have hlen : (entryBytes s).length = 3 := rfl
  rw [interruptEntry_readByte, ← keyboardDrain_sp]
  exact readByte_pushAll_cell (entryBytes s) (keyboardDrain_wf s hm) (by omega) hk

/-- The three stack cells after the entry. -/
theorem interruptEntry_cells (hm : Memory.wf s.mem = true) :
    s.interruptEntry.readByte (stackAddr s.sp) = hiByte s.pc ∧
      s.interruptEntry.readByte (stackAddr (s.sp - 1)) = loByte s.pc ∧
      s.interruptEntry.readByte (stackAddr (s.sp - 2)) = s.p := by
  have hlen : (entryBytes s).length = 3 := rfl
  have hzero : s.sp - BitVec.ofNat 8 0 = s.sp := BitVec.sub_zero s.sp
  refine ⟨?_, interruptEntry_cell hm (k := 1) (by omega), interruptEntry_cell hm (k := 2) (by omega)⟩
  rw [← hzero]
  exact interruptEntry_cell hm (k := 0) (by omega)

/-- Every other byte is as the drain left it. -/
theorem interruptEntry_readByte_other {b : Word} (hfirst : b ≠ stackAddr s.sp) (hsecond : b ≠ stackAddr (s.sp - 1))
    (hthird : b ≠ stackAddr (s.sp - 2)) : s.interruptEntry.readByte b = s.keyboardDrain.readByte b := by
  rw [interruptEntry_readByte]
  refine readByte_pushAll_other _ _ fun k hk => ?_
  rw [keyboardDrain_sp]
  obtain rfl | rfl | rfl : k = 0 ∨ k = 1 ∨ k = 2 := by
    have hlt : k < 3 := hk
    omega
  · simpa using hfirst
  · exact hsecond
  · exact hthird

/-- The registers and the control state after the entry: `interruptEntry_eq` with the drain written out. -/
theorem interruptEntry_frame (s : State) :
    s.interruptEntry = { s with
      run := .servicing
      inProgress := true
      sp := s.sp - 3
      pc := s.interruptEntry.pc
      mem := s.interruptEntry.mem
      serviceSteps := 0
      keyQueue := []
      freeIndex := s.interruptEntry.freeIndex } := by
  rw [← interruptEntry_sp, interruptEntry_eq, keyboardDrain_eq]

theorem interruptEntry_pc (s : State) :
    s.interruptEntry.pc = wordOf (s.keyboardDrain.readByte 0xFFFE) (s.keyboardDrain.readByte 0xFFFF) :=
  congrArg State.pc (interruptEntry_eq s)

/-- Settles O50: the three pulls of RTI read the cells of the three pushes of the entry (60_exceptions.md R269). -/
theorem rtiUndoesInterruptEntry : Obligations.RtiUndoesInterruptEntry := by
  intro s u hm hsp hcells
  obtain ⟨hhigh, hlow, hp⟩ := interruptEntry_cells hm
  have husp : u.sp = s.sp - 3 := hsp.trans (interruptEntry_sp s)
  have hone : u.sp + 1 = s.sp - 2 := by bv_omega
  have htwo : u.sp + 2 = s.sp - 1 := by bv_omega
  have hthree : u.sp + 3 = s.sp := by bv_omega
  rw [exec_rti, hone, htwo, hthree, hcells s.sp (Or.inl rfl), hcells (s.sp - 1) (Or.inr (Or.inl rfl)),
    hcells (s.sp - 2) (Or.inr (Or.inr rfl)), hhigh, hlow, hp, wordOf_lo_hi]

end Sys2Proof.Claim
end

section
/-! One action of the controller, an equation for each row of the table of its transitions (60_exceptions.md R259, R267,
R273), and what the debug table changes. -/

namespace Sys2Proof.Machine

variable {s t : State}

/-! ### The actions -/

theorem controllerAction_between (hrun : s.run = .running) (hsteps : s.intervalSteps = none) :
    controllerAction s = .next s.startInterval := by
  rw [controllerAction, hrun, hsteps]

theorem controllerAction_quotaSpent {k : Nat} (hrun : s.run = .running) (hsteps : s.intervalSteps = some k)
    (hquota : s.cfg.stepQuota ≤ k) : controllerAction s = .next s.endInterval := by
  simp [controllerAction, hrun, hsteps, hquota]

theorem controllerAction_interval {k : Nat} (hrun : s.run = .running) (hsteps : s.intervalSteps = some k)
    (hquota : k < s.cfg.stepQuota) : controllerAction s = intervalStep k s := by
  simp [controllerAction, hrun, hsteps, hquota]

theorem controllerAction_service (hrun : s.run = .servicing) (hmark : s.inProgress = true)
    (hbudget : s.serviceSteps < s.cfg.intStepBudget) : controllerAction s = serviceStep s := by
  simp [controllerAction, hrun, hmark, hbudget]

theorem controllerAction_budgetSpent (hrun : s.run = .servicing) (hmark : s.inProgress = true)
    (hbudget : s.cfg.intStepBudget ≤ s.serviceSteps) : controllerAction s = .next (s.halt .runawayInterrupt) := by
  simp [controllerAction, hrun, hmark, hbudget]

theorem controllerAction_markClear (hrun : s.run = .servicing) (hmark : s.inProgress = false) :
    controllerAction s = .next s.endService := by
  simp [controllerAction, hrun, hmark]

theorem controllerAction_halted {r : HaltReason} (hrun : s.run = .halted r) :
    controllerAction s = .fault (.halted r) := by
  rw [controllerAction, hrun]

/-! ### The two branches of an interval's start and of its end -/

theorem startInterval_of_lt (h : s.intervalCount < s.cfg.maxIntervals) :
    s.startInterval = { s with intervalCount := s.intervalCount + 1, intervalSteps := some 0 } :=
  if_neg (by omega)

theorem startInterval_of_le (h : s.cfg.maxIntervals ≤ s.intervalCount) : s.startInterval = s.halt .intervalLimit :=
  if_pos h

theorem endInterval_masked (h : s.flag .i = true) : s.endInterval = { s with intervalSteps := none } := if_pos h

theorem endInterval_taken (h : s.flag .i = false) : s.endInterval = { s with intervalSteps := none }.interruptEntry :=
  if_neg (ne_true_of_eq_false h)

/-- The drain does not read the steps of an interval. -/
theorem keyboardDrain_readByte_of_intervalSteps (s : State) (k : Option Nat) (b : Word) :
    { s with intervalSteps := k }.keyboardDrain.readByte b = s.keyboardDrain.readByte b := by
  cases h : s.keyQueue <;> simp [State.keyboardDrain, h, State.readByte]

/-! ### The debug table (60_exceptions.md R260, R261) -/

theorem consultDebug_of_justResumed (h : s.justResumed = true) : s.consultDebug = s := if_pos h

theorem consultDebug_of_not_justResumed (h : s.justResumed = false) : s.consultDebug = s.emitAt s.pc :=
  if_neg (ne_true_of_eq_false h)

/-- Consulting the debug table changes the emitted annotations and nothing else. -/
theorem consultDebug_eq (s : State) : s.consultDebug = { s with emitted := s.consultDebug.emitted } := by
  by_cases h : s.justResumed = true
  · rw [consultDebug_of_justResumed h]
  · rw [consultDebug_of_not_justResumed (eq_false_of_ne_true h)]
    rfl

@[simp] theorem State.consultDebug_pc (s : State) : s.consultDebug.pc = s.pc := by rw [consultDebug_eq]

@[simp] theorem State.consultDebug_readByte (s : State) (b : Word) : s.consultDebug.readByte b = s.readByte b := by
  rw [consultDebug_eq]
  rfl

@[simp] theorem State.consultDebug_run (s : State) : s.consultDebug.run = s.run := by rw [consultDebug_eq]

@[simp] theorem State.consultDebug_inbox (s : State) : s.consultDebug.inbox = s.inbox := by rw [consultDebug_eq]

/-- The annotations of an address, each with it, are the entries of the table at that address, in their order. -/
theorem debugAt_map_pair (c : Config) (addr : Word) :
    (Config.debugAt c addr).map (fun n => (addr, n)) = c.debugTable.filter (fun e => e.1 == addr) := by
  rw [Config.debugAt, List.map_map]
  refine (List.map_congr_left fun e he => ?_).trans (List.map_id _)
  have haddr : e.1 = addr := eq_of_beq (List.mem_filter.mp he).2
  exact Prod.ext haddr.symm rfl

/-! ### A step without a suspend point (60_exceptions.md R260) -/

theorem suspendHere_of_justResumed (h : s.justResumed = true) : s.suspendHere = false := by
  simp [State.suspendHere, h]

theorem suspendHere_of_flagged (hguard : s.justResumed = false) (hflag : Config.suspendAt s.cfg s.pc = true) :
    s.suspendHere = true := by
  simp [State.suspendHere, hguard, hflag]

theorem instructionStep_suspends (h : s.suspendHere = true) :
    instructionStep s = .next (s.consultDebug, .noInstruction) := if_pos h

/-- A fatal event ends the step, counted by neither loop. -/
theorem instructionStep_raises (hsuspend : s.suspendHere = false) (hexec : executeOne s.consultDebug = .next t)
    (hhalted : t.isHalted = true) : instructionStep s = .next (t, .raised) := by
  simp [instructionStep, hsuspend, hexec, hhalted]

/-- The first byte fetched is the opcode byte (30_encoding.md R92). -/
theorem fetchBytes_eq_cons (s : State) : s.fetchBytes = s.readByte s.pc :: s.readBlock (s.pc + 1) 3 := rfl

/-- Four bytes are enough for the operands of every entry (30_encoding.md R90). -/
theorem assemble_readBlock_isSome (e : Entry) (s : State) (a : Word) : (e.assemble (s.readBlock a 3)).isSome = true := by
  cases e <;> rfl

/-- The four bytes fetched fail to decode only at an opcode byte with no entry (30_encoding.md R93, R95). -/
theorem dispatch_eq_none_of_decode (h : ∀ r, decode s.cfg s.fetchBytes ≠ .ok r) :
    dispatch s.cfg (s.readByte s.pc) = none := by
  cases hentry : dispatch s.cfg (s.readByte s.pc) with
  | none => rfl
  | some e =>
    obtain ⟨r, hr⟩ := Option.isSome_iff_exists.mp (assemble_readBlock_isSome e s (s.pc + 1))
    exact absurd (decode_eq_ok_iff.mpr ⟨_, _, e, fetchBytes_eq_cons s, hentry, hr⟩) (h r)

theorem executeOne_of_dispatch_none (h : dispatch s.cfg (s.readByte s.pc) = none) :
    executeOne s = .next (s.raiseFatal (.unknownOpcode s.pc (s.readByte s.pc))) := by
  simp [executeOne, fetchBytes_eq_cons, decode, h]

end Sys2Proof.Machine
end

section
/-! The controller's actions and the host's inputs, from the steps that take them (60_exceptions.md R251 to R277). -/

namespace Sys2Proof.Claim

open Sys2Proof.Machine

variable {s : State}

/-! ### Unknown opcodes and annotations -/

/-- Settles O5: the step raises the fatal event behind the debug table, in either loop (60_exceptions.md R252). -/
theorem unknownOpcodeHalts : Obligations.UnknownOpcodeHalts := by
  intro s hentry hloop
  let t := s.consultDebug.raiseFatal (.unknownOpcode s.pc (s.readByte s.pc))
  have hexec : executeOne s.consultDebug = .next t := by
    simpa using executeOne_of_dispatch_none (s := s.consultDebug) (by simpa using hentry)
  refine ⟨t, ?_, rfl⟩
  obtain ⟨k, hin⟩ | hin := hloop
  · have ⟨_, _, _, _, hsuspend⟩ := hin
    rw [step_of_inInterval hin, intervalStep, instructionStep_raises hsuspend hexec rfl]
  · have ⟨_, _, _, _, hsuspend⟩ := hin
    rw [step_of_inService hin, serviceStep, instructionStep_raises hsuspend hexec rfl]

/-- Settles O9: the emission appends the address's entries of the table (60_exceptions.md R260, R261). -/
theorem annotationsFireUnlessJustResumed : Obligations.AnnotationsFireUnlessJustResumed := by
  intro s
  refine ⟨consultDebug_of_justResumed, fun h => ?_⟩
  rw [consultDebug_of_not_justResumed h, State.emitAt, debugAt_map_pair]

/-! ### The end of an interval and the service loop -/

/-- Settles O47: the end of the interval enters the interrupt (60_exceptions.md R264, R266). -/
theorem interruptEntryAtIntervalEnd : Obligations.InterruptEntryAtIntervalEnd := by
  intro s k hm hinput hrun hsteps hquota hflag
  let u : State := { s with intervalSteps := none }
  have hdrain (b : Word) : u.keyboardDrain.readByte b = s.keyboardDrain.readByte b :=
    keyboardDrain_readByte_of_intervalSteps s none b
  obtain ⟨hhigh, hlow, hp⟩ := interruptEntry_cells (s := u) hm
  refine ⟨u.interruptEntry, ?step, interruptEntry_frame u, ?vector, hhigh, hlow, hp, ?others⟩
  case step =>
    rw [step_of_noInputTaken hinput, controllerAction_quotaSpent hrun hsteps hquota, endInterval_taken hflag]
  case vector => rw [interruptEntry_pc, hdrain, hdrain]
  case others =>
    intro b hfirst hsecond hthird
    exact (interruptEntry_readByte_other (s := u) hfirst hsecond hthird).trans (hdrain b)

/-- Settles O48: with I set the end of the interval is the end of its steps (60_exceptions.md R264, R265). -/
theorem maskedInterruptIsDropped : Obligations.MaskedInterruptIsDropped := by
  intro s k hinput hrun hsteps hquota hflag
  rw [step_of_noInputTaken hinput, controllerAction_quotaSpent hrun hsteps hquota, endInterval_masked hflag]

/-- Settles O51: the mark clear ends the loop (60_exceptions.md R267, R269). -/
theorem serviceLoopEnds : Obligations.ServiceLoopEnds := by
  intro s hinput hrun hmark
  rw [step_of_noInputTaken hinput, controllerAction_markClear hrun hmark, State.endService]

/-- Settles O52: the budget spent with the mark set halts the core (60_exceptions.md R255, R267). -/
theorem runawayInterruptHalts : Obligations.RunawayInterruptHalts := by
  intro s hinput hrun hmark hbudget
  rw [step_of_noInputTaken hinput, controllerAction_budgetSpent hrun hmark hbudget, State.halt]

/-- Settles O53: the service loop refuses the step that a suspend point leaves without an instruction
(60_exceptions.md R272). -/
theorem suspendPointInServiceIsRefused : Obligations.SuspendPointInServiceIsRefused := by
  intro s hinput hrun hmark hbudget hguard hflag
  rw [step_of_noInputTaken hinput, controllerAction_service hrun hmark hbudget, serviceStep,
    instructionStep_suspends (suspendHere_of_flagged hguard hflag)]

/-! ### Suspend points and intervals -/

/-- Settles O54: an interval parks on the step that a suspend point leaves without an instruction (60_exceptions.md R262,
R271). -/
theorem suspendPointParks : Obligations.SuspendPointParks := by
  intro s k hinput hrun hsteps hquota hguard hflag
  have hstep : step s = .next s.consultDebug.park := by
    rw [step_of_noInputTaken hinput, controllerAction_interval hrun hsteps hquota, intervalStep,
      instructionStep_suspends (suspendHere_of_flagged hguard hflag)]
  rw [hstep, consultDebug_eq]
  rfl

/-- Settles O57: between intervals the action is the start of the next, with its limit (60_exceptions.md R273, R274). -/
theorem intervalsStartUpToTheLimit : Obligations.IntervalsStartUpToTheLimit := by
  intro s hinput hrun hsteps
  rw [step_of_noInputTaken hinput, controllerAction_between hrun hsteps]
  exact ⟨fun hlt => by rw [startInterval_of_lt hlt], fun hle => by rw [startInterval_of_le hle, State.halt]⟩

/-! ### The host's inputs -/

theorem step_of_mayTake {j : Input} {rest : List Input} (hinbox : s.inbox = j :: rest) (hmay : s.mayTake j = true) :
    step s = .next ({ s with inbox := rest }.takeInput j) := by
  simp [step, controllerStep, hinbox, hmay]

/-- An input that may not be taken waits: the step is the controller's (60_exceptions.md R276). -/
theorem step_of_not_mayTake {j : Input} {rest : List Input} (hinbox : s.inbox = j :: rest)
    (hmay : s.mayTake j = false) : step s = controllerAction s := by
  simp [step, controllerStep, hinbox, hmay]

/-- The start of an interval with the limit tested the other way round. -/
theorem startInterval_eq_ite (s : State) :
    s.startInterval =
      if s.intervalCount < s.cfg.maxIntervals then
        { s with intervalCount := s.intervalCount + 1, intervalSteps := some 0 }
      else { s with run := .halted .intervalLimit } := by
  split
  next hlt => exact startInterval_of_lt hlt
  next hge => exact startInterval_of_le (by omega)

theorem goStart_eq_ite (s : State) : s.goStart = if s.run = .idle then { s with run := .running } else s := by
  cases hrun : s.run <;> simp [State.goStart, hrun]

theorem hostSuspend_eq_ite (s : State) :
    s.hostSuspend = if s.run = .running then { s with run := .suspended } else s := by
  cases hrun : s.run <;> simp [State.hostSuspend, hrun]

theorem hostResume_eq_ite (s : State) :
    s.hostResume = if s.run = .suspended then { s with run := .running, justResumed := true }.startInterval else s := by
  cases hrun : s.run <;> simp [State.hostResume, hrun]

theorem hostDrive_eq_ite (s : State) : s.hostDrive = if s.run = .running then s.startInterval else s := by
  cases hrun : s.run <;> simp [State.hostDrive, hrun]

/-- Settles O55: the input starts an interval, and the guard passes the next step by both tables (60_exceptions.md R263,
R275). -/
theorem resumeExecutesTheFlaggedInstruction : Obligations.ResumeExecutesTheFlaggedInstruction := by
  intro s u i rest hrun hinbox hlimit hquota hdecode r hexec hhalted
  have hcontrol : s.hostHasControl = true := by simp [State.hostHasControl, hrun]
  have hin : InInterval r 0 := ⟨nofun, rfl, rfl, hquota, suspendHere_of_justResumed rfl⟩
  have hdebug : r.consultDebug = r := consultDebug_of_justResumed rfl
  refine ⟨?resumes, ?executes⟩
  case resumes =>
    rw [step_of_mayTake hinbox hcontrol, State.takeInput, hostResume_eq_ite, if_pos hrun]
    exact congrArg Host.Outcome.next (startInterval_of_lt hlimit)
  case executes =>
    rw [(stepRunsTheDecodedInstruction r i rest hdecode).1 0 hin, hdebug, hexec]
    simp [hhalted]

/-- Settles O56: the step takes each input where it may and tests the run state; elsewhere it is the controller's
(60_exceptions.md R273 to R277, R285). -/
theorem hostInputsActInTheirState : Obligations.HostInputsActInTheirState := by
  intro s rest s1 began
  have hbegan (u : State) : u.startInterval = began u := startInterval_eq_ite u
  refine ⟨?go, ?suspend, ?resume, ?drive, ?waits, ?key⟩
  case go =>
    intro hcontrol hinbox
    rw [step_of_mayTake hinbox hcontrol, State.takeInput, goStart_eq_ite]
  case suspend =>
    intro hcontrol hinbox
    rw [step_of_mayTake hinbox hcontrol, State.takeInput, hostSuspend_eq_ite]
  case resume =>
    intro hcontrol hinbox
    rw [step_of_mayTake hinbox hcontrol, State.takeInput, hostResume_eq_ite, hbegan]
  case drive =>
    intro hcontrol hinbox
    rw [step_of_mayTake hinbox hcontrol, State.takeInput, hostDrive_eq_ite, hbegan]
  case waits =>
    rintro j hcontrol hinbox (rfl | rfl | rfl | rfl)
    all_goals exact step_of_not_mayTake hinbox hcontrol
  case key => exact fun code hinbox => step_of_mayTake hinbox rfl

/-! ### Halted -/

/-- No input but reset does anything in a Halted state, beyond the key queue (60_exceptions.md R251). -/
theorem takeInput_of_halted {r : HaltReason} (hrun : s.run = .halted r) {j : Input} (hj : j ≠ .reset) :
    s.takeInput j = s ∨ ∃ code, s.takeInput j = s.pressKey code := by
  cases j with
  | reset => exact absurd rfl hj
  | key code => exact Or.inr ⟨code, rfl⟩
  | go => simp [State.takeInput, goStart_eq_ite, hrun]
  | suspend => simp [State.takeInput, hostSuspend_eq_ite, hrun]
  | resume => simp [State.takeInput, hostResume_eq_ite, hrun]
  | drive => simp [State.takeInput, hostDrive_eq_ite, hrun]

/-- Settles O59: the controller's action faults there, so a next state comes from an input (60_exceptions.md R251). -/
theorem haltedIsForGood : Obligations.HaltedIsForGood := by
  intro s r hrun
  refine ⟨fun hinbox => ?fault, fun t h => ?next⟩
  case fault => rw [step_of_inbox_nil hinbox, controllerAction_halted hrun]
  case next =>
    obtain ⟨j, rest, hinbox, -, rfl⟩ | ⟨-, haction⟩ := step_next h
    · by_cases hj : j = .reset
      · exact Or.inl ⟨rest, hj ▸ hinbox⟩
      · obtain hsame | ⟨code, hkey⟩ := takeInput_of_halted (s := { s with inbox := rest }) hrun hj
        · right
          rw [hsame]
        · right
          rw [hkey]
          rfl
    · cases (controllerAction_halted hrun).symm.trans haction

end Sys2Proof.Claim
end

section
/-! What one step does to the run state, and the input that it leaves waiting (60_exceptions.md R251 to R260). -/

namespace Sys2Proof.Claim

open Sys2Proof.Machine

variable {s t u : State}

/-! ### Halted, and the opcodes that halt -/

theorem isHalted_eq (s : State) : s.isHalted = s.run.isHalted := by
  cases h : s.run <;> simp [State.isHalted, RunState.isHalted, h]

/-- The debug table does not move the opcode. -/
theorem fatalOpcode_consultDebug {r : HaltReason} : FatalOpcode s.consultDebug r ↔ FatalOpcode s r := by
  simp [FatalOpcode]

/-- An instruction keeps the run state, or is one of the two that halt. -/
theorem exec_run {i : Instr} (h : exec i s = .next t) :
    t.run = s.run ∨ (i = .brk ∧ t.run = .halted (.brk s.pc)) ∨ (i = .err ∧ t.run = .halted (.softwareError s.pc)) := by
  by_cases hbrk : i = .brk
  · subst hbrk
    obtain rfl : s.raiseFatal (.brk s.pc) = t := Host.Outcome.next.inj h
    exact Or.inr (Or.inl ⟨rfl, rfl⟩)
  by_cases herr : i = .err
  · subst herr
    obtain rfl : s.raiseFatal (.softwareError s.pc) = t := Host.Outcome.next.inj h
    exact Or.inr (Or.inr ⟨rfl, rfl⟩)
  obtain ⟨-, -, -, -, -, -, -, -, -, hrun⟩ := instructionsLeaveTheController i s t h
  exact Or.inl (hrun hbrk herr)

/-- `ExecuteOne` keeps the run state, or halts with the reason of the opcode at PC (60_exceptions.md R252 to R254). -/
theorem executeOne_run (h : executeOne s = .next t) : t.run = s.run ∨ ∃ r, t.run = .halted r ∧ FatalOpcode s r := by
  obtain ⟨i, rest, hdecode, hexec⟩ | ⟨hdecode, hraise⟩ := executeOne_cases s
  · obtain hsame | ⟨rfl, hbrk⟩ | ⟨rfl, herr⟩ := exec_run (hexec.symm.trans h)
    · exact Or.inl hsame
    · exact Or.inr ⟨_, hbrk, Or.inr (Or.inl ⟨rest, hdecode, rfl⟩)⟩
    · exact Or.inr ⟨_, herr, Or.inr (Or.inr ⟨rest, hdecode, rfl⟩)⟩
  · obtain rfl := Host.Outcome.next.inj (hraise.symm.trans h)
    exact Or.inr ⟨_, rfl, Or.inl ⟨dispatch_eq_none_of_decode hdecode, rfl⟩⟩

/-! ### The run state behind each report of `Step()` (60_exceptions.md R260) -/

theorem suspendHere_of_noInstruction (h : instructionStep s = .next (u, .noInstruction)) : s.suspendHere = true := by
  obtain ⟨hsuspend, -, -⟩ | ⟨-, t, -, ⟨-, -, hrep⟩ | ⟨-, -, hrep⟩⟩ := instructionStep_next h
  · exact hsuspend
  · cases hrep
  · cases hrep

theorem run_of_executed (h : instructionStep s = .next (u, .executed)) : u.run = s.run := by
  obtain ⟨-, -, hrep⟩ | ⟨-, t, ht, ⟨-, -, hrep⟩ | ⟨hhalted, rfl, -⟩⟩ := instructionStep_next h
  · cases hrep
  · cases hrep
  · obtain hsame | ⟨r, hr, -⟩ := executeOne_run ht
    · exact hsame.trans s.consultDebug_run
    · rw [isHalted_eq, hr] at hhalted
      cases hhalted

theorem fatalOpcode_of_raised (hs : s.run.isHalted = false) (h : instructionStep s = .next (u, .raised)) :
    s.suspendHere = false ∧ ∃ r, u.run = .halted r ∧ FatalOpcode s r := by
  obtain ⟨-, -, hrep⟩ | ⟨hsuspend, t, ht, ⟨hhalted, rfl, -⟩ | ⟨-, -, hrep⟩⟩ := instructionStep_next h
  · cases hrep
  · obtain hsame | ⟨r, hr, hfatal⟩ := executeOne_run ht
    · rw [isHalted_eq, hsame, State.consultDebug_run, hs] at hhalted
      cases hhalted
    · exact ⟨hsuspend, r, hr, fatalOpcode_consultDebug.mp hfatal⟩
  · cases hrep

/-- One step of an interval: counted, parked, or ended by a fatal event (60_exceptions.md R273). -/
theorem intervalStep_run {k : Nat} (hrun : s.run = .running) (h : intervalStep k s = .next t) :
    (t.run = .running ∧ t.intervalSteps = some (k + 1)) ∨ (t.run = .suspended ∧ s.suspendHere = true) ∨
      (s.suspendHere = false ∧ ∃ r, t.run = .halted r ∧ FatalOpcode s r) := by
  obtain ⟨u, rep, hu, ⟨rfl, rfl⟩ | ⟨rfl, rfl⟩ | ⟨rfl, rfl⟩⟩ := intervalStep_next h
  · exact Or.inl ⟨(run_of_executed hu).trans hrun, rfl⟩
  · exact Or.inr (Or.inl ⟨rfl, suspendHere_of_noInstruction hu⟩)
  · exact Or.inr (Or.inr (fatalOpcode_of_raised (hrun ▸ rfl) hu))

/-- One step of the service loop: counted, or ended by a fatal event (60_exceptions.md R267). -/
theorem serviceStep_run (hrun : s.run = .servicing) (h : serviceStep s = .next t) :
    (t.run = .servicing ∧ t.serviceSteps = s.serviceSteps + 1) ∨
      (s.suspendHere = false ∧ ∃ r, t.run = .halted r ∧ FatalOpcode s r) := by
  obtain ⟨u, rep, hu, ⟨rfl, rfl⟩ | ⟨rfl, rfl⟩⟩ := serviceStep_next h
  · have hsteps : u.serviceSteps = s.serviceSteps := (instructionStep_controlKept hu).serviceSteps
    exact Or.inl ⟨(run_of_executed hu).trans hrun, congrArg (· + 1) hsteps⟩
  · exact Or.inr (fatalOpcode_of_raised (hrun ▸ rfl) hu)

end Sys2Proof.Claim
end

section
/-! The moves of the run state (60_exceptions.md R259): which input or which action of the controller makes each. -/

namespace Sys2Proof.Claim

open Sys2Proof.Machine

variable {s t : State}

/-- A move of the run state in one step, under the name of its row in the table of 60_exceptions.md R259. -/
inductive RunMove (s t : State) : Prop
  | stays (hrun : t.run = s.run)
  | reset (rest : List Input) (hinbox : s.inbox = .reset :: rest) (hto : t.run = .idle)
  | go (rest : List Input) (hinbox : s.inbox = .go :: rest) (hfrom : s.run = .idle) (hto : t.run = .running)
  | suspendPoint (k : Nat) (hfrom : s.run = .running) (hto : t.run = .suspended) (hsteps : s.intervalSteps = some k)
      (hquota : k < s.cfg.stepQuota) (hsuspend : s.suspendHere = true)
  | hostSuspend (rest : List Input) (hinbox : s.inbox = .suspend :: rest) (hfrom : s.run = .running)
      (hto : t.run = .suspended) (hsteps : s.intervalSteps = none)
  | resume (rest : List Input) (hinbox : s.inbox = .resume :: rest) (hfrom : s.run = .suspended)
      (hto : t.run = .running) (hlimit : s.intervalCount < s.cfg.maxIntervals)
  | resumeAtLimit (rest : List Input) (hinbox : s.inbox = .resume :: rest) (hfrom : s.run = .suspended)
      (hto : t.run = .halted .intervalLimit) (hlimit : s.cfg.maxIntervals ≤ s.intervalCount)
  | interrupt (k : Nat) (hfrom : s.run = .running) (hto : t.run = .servicing) (hflag : s.flag .i = false)
      (hsteps : s.intervalSteps = some k) (hquota : s.cfg.stepQuota ≤ k)
  | serviceEnd (hfrom : s.run = .servicing) (hto : t.run = .running) (hmark : s.inProgress = false)
  | runaway (hfrom : s.run = .servicing) (hto : t.run = .halted .runawayInterrupt) (hmark : s.inProgress = true)
      (hbudget : s.cfg.intStepBudget ≤ s.serviceSteps)
  | limit (hfrom : s.run = .running) (hto : t.run = .halted .intervalLimit) (hsteps : s.intervalSteps = none)
      (hlimit : s.cfg.maxIntervals ≤ s.intervalCount)
  | fatal (r : HaltReason) (hloop : (∃ k, InInterval s k) ∨ InService s) (hto : t.run = .halted r)
      (hopcode : FatalOpcode s r)

/-- Between intervals only, the host has control of a Running machine (60_exceptions.md R276). -/
theorem intervalSteps_of_hostHasControl (hrun : s.run = .running) (hcontrol : s.hostHasControl = true) :
    s.intervalSteps = none := by
  simpa [State.hostHasControl, hrun] using hcontrol

theorem startInterval_run (s : State) :
    (s.intervalCount < s.cfg.maxIntervals ∧ s.startInterval.run = s.run) ∨
      (s.cfg.maxIntervals ≤ s.intervalCount ∧ s.startInterval.run = .halted .intervalLimit) := by
  obtain ⟨hle, h⟩ | ⟨hlt, h⟩ := startInterval_cases s
  · exact Or.inr ⟨hle, h ▸ rfl⟩
  · exact Or.inl ⟨hlt, by rw [h]⟩

theorem endInterval_run (s : State) :
    (s.flag .i = true ∧ s.endInterval.run = s.run) ∨ (s.flag .i = false ∧ s.endInterval.run = .servicing) := by
  obtain ⟨hflag, h⟩ | ⟨hflag, h⟩ := endInterval_cases s
  · exact Or.inl ⟨hflag, by rw [h]⟩
  · exact Or.inr ⟨hflag, by rw [h, State.interruptEntry_run]⟩

/-- The moves an input makes, in the order of the inputs. -/
theorem takeInput_runMove {j : Input} {rest : List Input} (hinbox : s.inbox = j :: rest) (hmay : s.mayTake j = true) :
    RunMove s ({ s with inbox := rest }.takeInput j) := by
  cases j with
  | reset => exact .reset rest hinbox rfl
  | key code => exact .stays rfl
  | go =>
    rw [State.takeInput, goStart_eq_ite]
    split
    next hrun => exact .go rest hinbox hrun rfl
    next => exact .stays rfl
  | suspend =>
    rw [State.takeInput, hostSuspend_eq_ite]
    split
    next hrun => exact .hostSuspend rest hinbox hrun rfl (intervalSteps_of_hostHasControl hrun hmay)
    next => exact .stays rfl
  | resume =>
    rw [State.takeInput, hostResume_eq_ite]
    split
    next hrun =>
      obtain ⟨hlt, hto⟩ | ⟨hle, hto⟩ :=
        startInterval_run { s with inbox := rest, run := .running, justResumed := true }
      · exact .resume rest hinbox hrun hto hlt
      · exact .resumeAtLimit rest hinbox hrun hto hle
    next => exact .stays rfl
  | drive =>
    rw [State.takeInput, hostDrive_eq_ite]
    split
    next hrun =>
      have hsteps := intervalSteps_of_hostHasControl hrun hmay
      obtain ⟨-, hto⟩ | ⟨hle, hto⟩ := startInterval_run { s with inbox := rest }
      · exact .stays hto
      · exact .limit hrun hto hsteps hle
    next => exact .stays rfl

/-- The moves the controller makes, action by action. -/
theorem controllerAction_runMove (hinput : NoInputTaken s) (h : controllerAction s = .next t) : RunMove s t := by
  obtain ⟨-, rfl⟩ | ⟨hrun, hsteps, rfl⟩ | ⟨k, hrun, hsteps, hquota, hstep⟩ | ⟨k, hrun, hsteps, hquota, rfl⟩ |
    ⟨hrun, hmark, hbudget, hstep⟩ | ⟨hrun, hmark, hbudget, rfl⟩ | ⟨hrun, hmark, rfl⟩ := controllerAction_next h
  · exact .stays rfl
  · obtain ⟨-, hto⟩ | ⟨hle, hto⟩ := startInterval_run s
    · exact .stays hto
    · exact .limit hrun hto hsteps hle
  · obtain ⟨hto, -⟩ | ⟨hto, hsuspend⟩ | ⟨hsuspend, r, hto, hopcode⟩ := intervalStep_run hrun hstep
    · exact .stays (hto.trans hrun.symm)
    · exact .suspendPoint k hrun hto hsteps hquota hsuspend
    · exact .fatal r (Or.inl ⟨k, hinput, hrun, hsteps, hquota, hsuspend⟩) hto hopcode
  · obtain ⟨-, hto⟩ | ⟨hflag, hto⟩ := endInterval_run s
    · exact .stays hto
    · exact .interrupt k hrun hto hflag hsteps hquota
  · obtain ⟨hto, -⟩ | ⟨hsuspend, r, hto, hopcode⟩ := serviceStep_run hrun hstep
    · exact .stays (hto.trans hrun.symm)
    · exact .fatal r (Or.inr ⟨hinput, hrun, hmark, hbudget, hsuspend⟩) hto hopcode
  · exact .runaway hrun rfl hmark hbudget
  · exact .serviceEnd hrun rfl hmark

theorem step_runMove (h : step s = .next t) : RunMove s t := by
  obtain ⟨j, rest, hinbox, hmay, rfl⟩ | ⟨hinput, haction⟩ := step_next h
  · exact takeInput_runMove hinbox hmay
  · exact controllerAction_runMove hinput haction

/-- Settles O58: the moves of `RunMove` are the rows of the obligation's table (60_exceptions.md R259). -/
theorem runStateMovesByTheTable : Obligations.RunStateMovesByTheTable := by
  intro s t h
  cases step_runMove h with
  | stays hrun => exact .inl hrun
  | reset rest hinbox hto => exact .inr (.inl ⟨hto, rest, hinbox⟩)
  | go rest hinbox hfrom hto => exact .inr (.inr (.inl ⟨hfrom, hto, rest, hinbox⟩))
  | suspendPoint k hfrom hto hsteps hquota hsuspend =>
    exact .inr (.inr (.inr (.inl ⟨hfrom, hto, .inl ⟨k, hsteps, hquota, hsuspend⟩⟩)))
  | hostSuspend rest hinbox hfrom hto hsteps =>
    exact .inr (.inr (.inr (.inl ⟨hfrom, hto, .inr ⟨hsteps, rest, hinbox⟩⟩)))
  | resume rest hinbox hfrom hto hlimit =>
    exact .inr (.inr (.inr (.inr (.inl ⟨hfrom, ⟨rest, hinbox⟩, .inl ⟨hto, hlimit⟩⟩))))
  | resumeAtLimit rest hinbox hfrom hto hlimit =>
    exact .inr (.inr (.inr (.inr (.inl ⟨hfrom, ⟨rest, hinbox⟩, .inr ⟨hto, hlimit⟩⟩))))
  | interrupt k hfrom hto hflag hsteps hquota =>
    exact .inr (.inr (.inr (.inr (.inr (.inl ⟨hfrom, hto, hflag, k, hsteps, hquota⟩)))))
  | serviceEnd hfrom hto hmark => exact .inr (.inr (.inr (.inr (.inr (.inr (.inl ⟨hfrom, hto, hmark⟩))))))
  | runaway hfrom hto hmark hbudget =>
    exact .inr (.inr (.inr (.inr (.inr (.inr (.inr (.inl ⟨hfrom, hto, hmark, hbudget⟩)))))))
  | limit hfrom hto hsteps hlimit =>
    exact .inr (.inr (.inr (.inr (.inr (.inr (.inr (.inr (.inl ⟨hfrom, hto, hsteps, hlimit⟩))))))))
  | fatal r hloop hto hopcode =>
    exact .inr (.inr (.inr (.inr (.inr (.inr (.inr (.inr (.inr ⟨hloop, r, hto, hopcode⟩))))))))

end Sys2Proof.Claim
end

section
/-! Every run ends (60_exceptions.md R274): a count of the steps left falls with each step of a Running or Servicing machine
that no input disturbs. -/

namespace Sys2Proof.Claim

open Sys2Proof.Machine

variable {s t u : State}

/-! ### No action of such a machine faults or takes an input -/

theorem executeOne_ne_fault (s : State) (e : Fault) : executeOne s ≠ .fault e := by
  obtain ⟨i, -, -, hexec⟩ | ⟨-, hraise⟩ := executeOne_cases s
  · rw [hexec]
    exact (exec_stopsExactly i s).noFault e
  · rw [hraise]
    nofun

theorem instructionStep_ne_fault (s : State) (e : Fault) : instructionStep s ≠ .fault e := by
  unfold instructionStep
  split
  next => nofun
  split
  next t ht => split <;> nofun
  next d hd => exact absurd hd (executeOne_ne_fault _ d)
  next => nofun

theorem intervalStep_ne_fault (k : Nat) (s : State) (e : Fault) : intervalStep k s ≠ .fault e := by
  unfold intervalStep
  split
  next => nofun
  next => nofun
  next => nofun
  next d hd => exact absurd hd (instructionStep_ne_fault s d)
  next => nofun

theorem serviceStep_ne_fault (s : State) (e : Fault) : serviceStep s ≠ .fault e := by
  unfold serviceStep
  split
  next => nofun
  next => nofun
  next => nofun
  next d hd => exact absurd hd (instructionStep_ne_fault s d)
  next => nofun

/-- The controller faults in Halted only (60_exceptions.md R251). -/
theorem controllerAction_ne_fault (hs : s.run.isHalted = false) (e : Fault) : controllerAction s ≠ .fault e := by
  unfold controllerAction
  split
  next => nofun
  next => nofun
  next r hr => simp [hr, RunState.isHalted] at hs
  next =>
    split
    next => nofun
    next k hk =>
      split
      · exact intervalStep_ne_fault k s e
      · nofun
  next =>
    split
    · split
      · exact serviceStep_ne_fault s e
      · nofun
    · nofun

theorem executeOne_inbox (h : executeOne s = .next t) : t.inbox = s.inbox := by
  obtain ⟨i, -, -, hexec⟩ | ⟨-, hraise⟩ := executeOne_cases s
  · exact (exec_within (hexec.symm.trans h)).inbox
  · obtain rfl := Host.Outcome.next.inj (hraise.symm.trans h)
    rfl

theorem instructionStep_inbox {rep : StepReport} (h : instructionStep s = .next (u, rep)) : u.inbox = s.inbox := by
  obtain ⟨-, rfl, -⟩ | ⟨-, t, ht, ⟨-, rfl, -⟩ | ⟨-, rfl, -⟩⟩ := instructionStep_next h
  · exact s.consultDebug_inbox
  all_goals exact (executeOne_inbox ht).trans s.consultDebug_inbox

/-- The inputs wait for the steps that take them (60_exceptions.md R285). -/
theorem controllerAction_inbox (h : controllerAction s = .next t) : t.inbox = s.inbox := by
  obtain ⟨-, rfl⟩ | ⟨-, -, rfl⟩ | ⟨k, -, -, -, hstep⟩ | ⟨k, -, -, -, rfl⟩ | ⟨-, -, -, hstep⟩ | ⟨-, -, -, rfl⟩ | ⟨-, -, rfl⟩ :=
    controllerAction_next h
  · rfl
  · obtain ⟨-, h⟩ | ⟨-, h⟩ := startInterval_cases s <;> rw [h]
    rfl
  · obtain ⟨u, rep, hu, hreport⟩ := intervalStep_next hstep
    have hinbox : u.inbox = s.inbox := instructionStep_inbox hu
    obtain ⟨-, rfl⟩ | ⟨-, rfl⟩ | ⟨-, rfl⟩ := hreport <;> exact hinbox
  · obtain ⟨-, h⟩ | ⟨-, h⟩ := endInterval_cases s <;> rw [h]
    rw [interruptEntry_frame]
  · obtain ⟨u, rep, hu, hreport⟩ := serviceStep_next hstep
    have hinbox : u.inbox = s.inbox := instructionStep_inbox hu
    obtain ⟨-, rfl⟩ | ⟨-, rfl⟩ := hreport <;> exact hinbox
  · rfl
  · rfl

/-! ### The steps left -/

/-- A machine whose steps are the controller's own: no input to come, Running or Servicing. -/
structure Busy (s : State) : Prop where
  inv : s.Inv
  inbox : s.inbox = []
  run : s.run = .running ∨ s.run = .servicing

/-- The most steps one interval takes with its interrupt: its start, its quota, its end, the budget, the end of the service
loop (60_exceptions.md R267, R273). -/
def stepsPerInterval (c : Config) : Nat := c.stepQuota + c.intStepBudget + 3

/-- The most steps left of the interval under way and its interrupt. -/
def stepsLeftHere (s : State) : Nat :=
  match s.run, s.intervalSteps with
  | .servicing, _ => s.cfg.intStepBudget - s.serviceSteps + 1
  | _, some k => s.cfg.stepQuota - k + s.cfg.intStepBudget + 2
  | _, none => 0

/-- The most steps left: here, of the intervals to come, and one to halt at the limit (60_exceptions.md R274). -/
def stepsLeft (s : State) : Nat :=
  stepsLeftHere s + (s.cfg.maxIntervals - s.intervalCount) * stepsPerInterval s.cfg + 1

theorem stepsLeftHere_between (hrun : s.run = .running) (hsteps : s.intervalSteps = none) : stepsLeftHere s = 0 := by
  simp [stepsLeftHere, hrun, hsteps]

theorem stepsLeftHere_interval {k : Nat} (hrun : s.run = .running) (hsteps : s.intervalSteps = some k) :
    stepsLeftHere s = s.cfg.stepQuota - k + s.cfg.intStepBudget + 2 := by
  simp [stepsLeftHere, hrun, hsteps]

theorem stepsLeftHere_service (hrun : s.run = .servicing) :
    stepsLeftHere s = s.cfg.intStepBudget - s.serviceSteps + 1 := by
  simp [stepsLeftHere, hrun]

theorem stepsLeftHere_lt (s : State) : stepsLeftHere s < stepsPerInterval s.cfg := by
  unfold stepsLeftHere stepsPerInterval
  split <;> omega

/-- With the same intervals to come, the count is that of the interval under way. -/
theorem stepsLeft_lt_of_here (hcfg : t.cfg = s.cfg) (hcount : t.intervalCount = s.intervalCount)
    (hhere : stepsLeftHere t < stepsLeftHere s) : stepsLeft t < stepsLeft s := by
  rw [stepsLeft, stepsLeft, hcfg, hcount]
  omega

/-- One interval fewer to come outweighs the interval it becomes. -/
theorem stepsLeft_lt_of_begun (hcfg : t.cfg = s.cfg) (hcount : t.intervalCount = s.intervalCount + 1)
    (hlimit : s.intervalCount < s.cfg.maxIntervals) : stepsLeft t < stepsLeft s := by
  have hhere : stepsLeftHere t < stepsPerInterval s.cfg := hcfg ▸ stepsLeftHere_lt t
  obtain ⟨n, hn⟩ : ∃ n, s.cfg.maxIntervals - s.intervalCount = n + 1 := Nat.exists_eq_add_one.mpr (by omega)
  have hless : s.cfg.maxIntervals - (s.intervalCount + 1) = n := by omega
  rw [stepsLeft, stepsLeft, hcfg, hcount, hn, hless, Nat.succ_mul]
  omega

/-- The bound of the statement (60_exceptions.md R274). -/
theorem stepsLeft_le (s : State) :
    stepsLeft s ≤ (s.cfg.maxIntervals + 1) * (s.cfg.stepQuota + s.cfg.intStepBudget + 3) := by
  have hhere : stepsLeftHere s + 1 ≤ stepsPerInterval s.cfg := stepsLeftHere_lt s
  calc stepsLeft s
      = (stepsLeftHere s + 1) + (s.cfg.maxIntervals - s.intervalCount) * stepsPerInterval s.cfg := by
        rw [stepsLeft, Nat.add_right_comm]
    _ ≤ stepsPerInterval s.cfg + s.cfg.maxIntervals * stepsPerInterval s.cfg :=
        Nat.add_le_add hhere (Nat.mul_le_mul_right _ (Nat.sub_le _ _))
    _ = (s.cfg.maxIntervals + 1) * stepsPerInterval s.cfg := by rw [Nat.add_comm, Nat.succ_mul]

/-! ### Each action uses up a step -/

theorem intervalStep_intervalCount {k : Nat} (h : intervalStep k s = .next t) : t.intervalCount = s.intervalCount := by
  obtain ⟨u, rep, hu, hreport⟩ := intervalStep_next h
  have hcount : u.intervalCount = s.intervalCount := (instructionStep_controlKept hu).intervalCount
  obtain ⟨-, rfl⟩ | ⟨-, rfl⟩ | ⟨-, rfl⟩ := hreport <;> exact hcount

theorem serviceStep_intervalCount (h : serviceStep s = .next t) : t.intervalCount = s.intervalCount := by
  obtain ⟨u, rep, hu, hreport⟩ := serviceStep_next h
  have hcount : u.intervalCount = s.intervalCount := (instructionStep_controlKept hu).intervalCount
  obtain ⟨-, rfl⟩ | ⟨-, rfl⟩ := hreport <;> exact hcount

/-- What a step of a busy machine leads to: the end of the run, or fewer steps left. -/
def Advances (s t : State) : Prop :=
  t.parkedOrEnded = true ∨ ((t.run = .running ∨ t.run = .servicing) ∧ stepsLeft t < stepsLeft s)

theorem parkedOrEnded_of_suspended (h : t.run = .suspended) : t.parkedOrEnded = true := by
  simp [State.parkedOrEnded, h]

theorem parkedOrEnded_of_halted {r : HaltReason} (h : t.run = .halted r) : t.parkedOrEnded = true := by
  simp [State.parkedOrEnded, h]

theorem startInterval_advances (hrun : s.run = .running) : Advances s s.startInterval := by
  obtain ⟨-, h⟩ | ⟨hlimit, h⟩ := startInterval_cases s
  · exact Or.inl (parkedOrEnded_of_halted (congrArg State.run h))
  · exact Or.inr ⟨Or.inl (by rw [h, hrun]), stepsLeft_lt_of_begun (by rw [h]) (by rw [h]) hlimit⟩

theorem intervalStep_advances {k : Nat} (hrun : s.run = .running) (hsteps : s.intervalSteps = some k)
    (hquota : k < s.cfg.stepQuota) (h : intervalStep k s = .next t) : Advances s t := by
  obtain ⟨hto, hcounted⟩ | ⟨hto, -⟩ | ⟨-, r, hto, -⟩ := intervalStep_run hrun h
  · have hcfg : t.cfg = s.cfg := intervalStep_cfg h
    refine Or.inr ⟨Or.inl hto, stepsLeft_lt_of_here hcfg (intervalStep_intervalCount h) ?_⟩
    rw [stepsLeftHere_interval hto hcounted, stepsLeftHere_interval hrun hsteps, hcfg]
    omega
  · exact Or.inl (parkedOrEnded_of_suspended hto)
  · exact Or.inl (parkedOrEnded_of_halted hto)

theorem endInterval_advances {k : Nat} (hrun : s.run = .running) (hsteps : s.intervalSteps = some k) :
    Advances s s.endInterval := by
  obtain ⟨-, h⟩ | ⟨-, h⟩ := endInterval_cases s
  · have hto : s.endInterval.run = .running := by rw [h, hrun]
    refine Or.inr ⟨Or.inl hto, stepsLeft_lt_of_here s.endInterval_cfg (by rw [h]) ?_⟩
    rw [stepsLeftHere_between hto (by rw [h]), stepsLeftHere_interval hrun hsteps]
    omega
  · have hto : s.endInterval.run = .servicing := by rw [h, State.interruptEntry_run]
    have hzero : s.endInterval.serviceSteps = 0 := by rw [h, State.interruptEntry_serviceSteps]
    refine Or.inr ⟨Or.inr hto, stepsLeft_lt_of_here s.endInterval_cfg (by rw [h, State.interruptEntry_intervalCount]) ?_⟩
    rw [stepsLeftHere_service hto, stepsLeftHere_interval hrun hsteps, hzero, State.endInterval_cfg]
    omega

theorem serviceStep_advances (hrun : s.run = .servicing) (hbudget : s.serviceSteps < s.cfg.intStepBudget)
    (h : serviceStep s = .next t) : Advances s t := by
  obtain ⟨hto, hcounted⟩ | ⟨-, r, hto, -⟩ := serviceStep_run hrun h
  · have hcfg : t.cfg = s.cfg := serviceStep_cfg h
    refine Or.inr ⟨Or.inr hto, stepsLeft_lt_of_here hcfg (serviceStep_intervalCount h) ?_⟩
    rw [stepsLeftHere_service hto, stepsLeftHere_service hrun, hcounted, hcfg]
    omega
  · exact Or.inl (parkedOrEnded_of_halted hto)

/-- In the service loop no interval is under way, so none is at its end (60_exceptions.md R259). -/
theorem endService_advances (hi : s.Inv) (hrun : s.run = .servicing) : Advances s s.endService := by
  have hsteps : s.endService.intervalSteps = none := hi.no_interval (hrun ▸ rfl)
  refine Or.inr ⟨Or.inl rfl, stepsLeft_lt_of_here rfl rfl ?_⟩
  rw [stepsLeftHere_between rfl hsteps, stepsLeftHere_service hrun]
  omega

theorem controllerAction_advances (hs : Busy s) (h : controllerAction s = .next t) : Advances s t := by
  obtain ⟨hwaits, rfl⟩ | ⟨hrun, -, rfl⟩ | ⟨k, hrun, hsteps, hquota, hstep⟩ | ⟨k, hrun, hsteps, -, rfl⟩ |
    ⟨hrun, -, hbudget, hstep⟩ | ⟨-, -, -, rfl⟩ | ⟨hrun, -, rfl⟩ := controllerAction_next h
  · have hbusy := hs.run
    obtain hrun | hrun := hwaits <;> simp [hrun] at hbusy
  · exact startInterval_advances hrun
  · exact intervalStep_advances hrun hsteps hquota hstep
  · exact endInterval_advances hrun hsteps
  · exact serviceStep_advances hrun hbudget hstep
  · exact Or.inl rfl
  · exact endService_advances hs.inv hrun

/-! ### The run -/

/-- Within `n` steps the machine is parked, has ended, or is refused a step. -/
def EndsWithin (n : Nat) (s : State) : Prop :=
  ∃ m, m ≤ n ∧ ((∃ t, core.run m s = .next t ∧ t.parkedOrEnded = true) ∨ ∃ r, core.run m s = .refused r)

theorem run_succ_of_next {M : Host.Core} {s t : M.State} (m : Nat) (h : M.step s = .next t) :
    M.run (m + 1) s = M.run m t := by
  rw [Host.Core.run, h]

theorem run_one_of_refused {M : Host.Core} {s : M.State} {r : M.Refusal} (h : M.step s = .refused r) :
    M.run 1 s = .refused r := by
  rw [Host.Core.run, h]

theorem EndsWithin.of_step {n : Nat} (h : step s = .next t) (ht : EndsWithin n t) : EndsWithin (n + 1) s := by
  obtain ⟨m, hm, hend⟩ := ht
  exact ⟨m + 1, Nat.succ_le_succ hm, by rwa [run_succ_of_next (M := core) m h]⟩

/-- By induction on the steps left. -/
theorem endsWithin_of_stepsLeft {n : Nat} (hs : Busy s) (hn : stepsLeft s ≤ n) : EndsWithin n s := by
  induction n generalizing s with
  | zero => exact absurd hn (Nat.not_succ_le_zero _)
  | succ n ih =>
    have haction := step_of_inbox_nil hs.inbox
    cases hstep : step s with
    | refused r => exact ⟨1, by omega, Or.inr ⟨r, run_one_of_refused (M := core) hstep⟩⟩
    | fault e =>
      have hlive : s.run.isHalted = false := by
        obtain hrun | hrun := hs.run <;> rw [hrun, RunState.isHalted]
      exact absurd (haction.symm.trans hstep) (controllerAction_ne_fault hlive e)
    | next t =>
      have hnext : controllerAction s = .next t := haction.symm.trans hstep
      obtain hend | ⟨hrun, hless⟩ := controllerAction_advances hs hnext
      · exact .of_step hstep ⟨0, Nat.zero_le n, Or.inl ⟨t, rfl, hend⟩⟩
      · have ht : Busy t := ⟨stepKeepsTheInvariant s t hs.inv hstep, (controllerAction_inbox hnext).trans hs.inbox, hrun⟩
        exact .of_step hstep (ih ht (by omega))

/-- Settles O60: the steps left are within the bound, and each step leaves fewer (60_exceptions.md R274). -/
theorem everyRunEnds : Obligations.EveryRunEnds :=
  fun s hinv hinbox hrun => endsWithin_of_stepsLeft ⟨hinv, hinbox, hrun⟩ (stepsLeft_le s)

end Sys2Proof.Claim
end
